-- ==== Sys2Proof/Word.lean ====
section
/-! DEFINITION. The two word types of the block: a payload byte and a 16-bit register (spec 00_scope.md R8, R9). -/

namespace Sys2Proof

/-- One payload byte of a frame, or one character of a script line (R11, R82). -/
abbrev Byte := BitVec 8

/-- A `u16` raw value in 0.1-unit fixed point (R9): it is only compared, as an unsigned number, and copied. -/
abbrev Word := BitVec 16

end Sys2Proof
end

