-- ==== Sys2Proof/Config.lean ====
section
/-! DEFINITION. The implementation parameters of 00_scope.md R7, the model's arguments for them, and the fixed
constants of the payload format. -/

namespace Sys2Proof

/-- The configuration parameters of R7 that CONFIG fixes (R186). `hbInit`, `hbPreOperate` and `hbOperate` are
`HB_CODE` at the three network states. -/
structure Params where
  idWidth : Nat
  heartbeatId : Nat
  statusId : Nat
  controlId : Nat
  minCurrent : Word
  hbInit : Byte
  hbPreOperate : Byte
  hbOperate : Byte
  deriving DecidableEq, Repr

/-- The parameters R7 leaves OPEN, with the constraints R7 puts on them. The values after `:=` only show that
such parameters exist (they are the example values of 95_test_vectors.md); `Config.openParams` is not known to
be equal to them. -/
structure Config.OpenParams where
  idWidth : Nat := 11
  heartbeatId : Nat := 0x701
  statusId : Nat := 0x181
  controlId : Nat := 0x201
  minCurrent : Word := 10
  width_allowed : idWidth = 11 ∨ idWidth = 29 := by decide
  heartbeat_fits : heartbeatId < 2 ^ idWidth := by decide
  status_fits : statusId < 2 ^ idWidth := by decide
  control_fits : controlId < 2 ^ idWidth := by decide
  heartbeat_ne_status : heartbeatId ≠ statusId := by decide
  heartbeat_ne_control : heartbeatId ≠ controlId := by decide
  status_ne_control : statusId ≠ controlId := by decide
  deriving Inhabited

/-- The model's arguments for the OPEN parameters (92_eei_decisions.md D9, D10, D11): unknown to every proof.
Free constant, log entry 2 (safe). -/
opaque Config.openParams : Config.OpenParams

/-- The model's arguments for all parameters: the OPEN ones, and the spec's default `HB_CODE` (R75, D3). -/
def Config.modelArgs : Params where
  idWidth := Config.openParams.idWidth
  heartbeatId := Config.openParams.heartbeatId
  statusId := Config.openParams.statusId
  controlId := Config.openParams.controlId
  minCurrent := Config.openParams.minCurrent
  hbInit := 0x00
  hbPreOperate := 0x01
  hbOperate := 0x02

/-- The example configuration of 95_test_vectors.md. The machine never uses it: tests and the placing of a bare
table word (Machine/Fetch.lean, log entry 9) do. -/
def Config.example11 : Params where
  idWidth := 11
  heartbeatId := 0x701
  statusId := 0x181
  controlId := 0x201
  minCurrent := 10
  hbInit := 0x00
  hbPreOperate := 0x01
  hbOperate := 0x02

/-- `CTRL_MIN_LEN`: the smallest accepted control-frame payload length (R7, D13). -/
def Config.ctrlMinLen : Nat := 5

/-- The payload capacity of a frame (R7, R11). -/
def Config.maxPayload : Nat := 8

end Sys2Proof
end

