-- ==== Sys2Proof/Syntax.lean ====
section
/-! DEFINITION. The operations of spec/opcode_table.json, one constructor per row (30_encoding.md R79, R82, R83). -/

namespace Sys2Proof

/-- The operands of a CONFIG line (R82): a parameter left out is `none`. `hbCode` holds the bytes for Init,
PreOperate and Operate. -/
structure ConfigArgs where
  minCurrent : Option Word := none
  heartbeatId : Option Nat := none
  statusId : Option Nat := none
  controlId : Option Nat := none
  idWidth : Option Nat := none
  hbCode : Option (Byte × Byte × Byte) := none
  deriving DecidableEq, Repr

/-- Every operation of the block and of its host. -/
inductive Instr where
  /-- ADVANCE.IDLE (R101) -/
  | advanceIdle
  /-- ADVANCE.CC (R102) -/
  | advanceCc
  /-- ADVANCE.CV (R103) -/
  | advanceCv
  /-- ADVANCE.INVALID (R104) -/
  | advanceInvalid
  /-- VLOOP.IDLE (R121) -/
  | vloopIdle
  /-- VLOOP.CC (R122) -/
  | vloopCc
  /-- VLOOP.CV (R123) -/
  | vloopCv
  /-- REGULATE.INVALID (R128) -/
  | regulateInvalid
  /-- ILOOP.IDLE (R124) -/
  | iloopIdle
  /-- ILOOP.CC (R125) -/
  | iloopCc
  /-- ILOOP.CV (R126) -/
  | iloopCv
  /-- ENC_HEARTBEAT (R140) -/
  | encHeartbeat
  /-- ENC_STATUS (R142) -/
  | encStatus
  /-- RX_NONE (R162) -/
  | rxNone
  /-- RX_OTHER (R163) -/
  | rxOther
  /-- CTRL_BADLEN (R164) -/
  | ctrlBadlen
  /-- CTRL_BADEN (R165) -/
  | ctrlBaden
  /-- CTRL_OK (R166) -/
  | ctrlOk
  /-- TICK (R180) -/
  | tick
  /-- SENSE v, i (R182) -/
  | sense (v i : Word)
  /-- RXQ id, [bytes] (R183); the frame's `len` is the number of bytes -/
  | rxq (id : Nat) (data : List Byte)
  /-- CONFIG ... (R186) -/
  | config (a : ConfigArgs)
  /-- RESET (R230) -/
  | reset
  /-- CTRL v, i, e (R83) -/
  | ctrl (v i : Word) (e : Byte)
  /-- STEP v, i (R83) -/
  | step (v i : Word)
  /-- BOOT n (R83) -/
  | boot (n : Word)
  deriving DecidableEq, Repr

/-- The operations selected by the keyword of a script line (R79 (d)); the others are selected by a key inside a
cycle (R79 (a) to (c)). -/
def Instr.isHostOp : Instr → Bool
  | .tick => true
  | .sense _ _ => true
  | .rxq _ _ => true
  | .config _ => true
  | .reset => true
  | .ctrl _ _ _ => true
  | .step _ _ => true
  | .boot _ => true
  | .advanceIdle => false
  | .advanceCc => false
  | .advanceCv => false
  | .advanceInvalid => false
  | .vloopIdle => false
  | .vloopCc => false
  | .vloopCv => false
  | .regulateInvalid => false
  | .iloopIdle => false
  | .iloopCc => false
  | .iloopCv => false
  | .encHeartbeat => false
  | .encStatus => false
  | .rxNone => false
  | .rxOther => false
  | .ctrlBadlen => false
  | .ctrlBaden => false
  | .ctrlOk => false

end Sys2Proof
end

