-- ==== Sys2Proof/WellFormed.lean ====
section
/-! DEFINITION. The limits the spec puts on operands whatever the state: payload length (R11), identifier range
(R7: at most 29 bits), allowed widths (R7), injective `HB_CODE` (R7). -/

namespace Sys2Proof

/-- An identifier that fits the widest identifier space R7 allows. -/
def fitsWidestId (id : Nat) : Bool := decide (id < 2 ^ 29)

/-- Three heartbeat bytes that give each network state its own code (R7: an injective map). -/
def distinctCodes (c : Byte × Byte × Byte) : Bool :=
  decide (c.1 ≠ c.2.1) && decide (c.1 ≠ c.2.2) && decide (c.2.1 ≠ c.2.2)

/-- The operands of one CONFIG line, each against the range R7 gives it. -/
def ConfigArgs.wellFormed (a : ConfigArgs) : Bool :=
  a.heartbeatId.all fitsWidestId && a.statusId.all fitsWidestId && a.controlId.all fitsWidestId &&
    a.idWidth.all (fun w => decide (w = 11 ∨ w = 29)) && a.hbCode.all distinctCodes

/-- The operand limits that do not depend on the state. What depends on the configuration in force (an identifier
below `2^ID_WIDTH`, distinct identifiers) is checked by the meaning (R186, R207). -/
def Instr.wellFormed : Instr → Bool
  | .rxq id data => fitsWidestId id && decide (data.length ≤ Config.maxPayload)
  | .config a => a.wellFormed
  | .tick => true
  | .sense _ _ => true
  | .reset => true
  | .ctrl _ _ _ => true
  | .step _ _ => true
  | .boot _ => true
  | .advanceIdle => true
  | .advanceCc => true
  | .advanceCv => true
  | .advanceInvalid => true
  | .vloopIdle => true
  | .vloopCc => true
  | .vloopCv => true
  | .regulateInvalid => true
  | .iloopIdle => true
  | .iloopCc => true
  | .iloopCv => true
  | .encHeartbeat => true
  | .encStatus => true
  | .rxNone => true
  | .rxOther => true
  | .ctrlBadlen => true
  | .ctrlBaden => true
  | .ctrlOk => true

end Sys2Proof
end

