-- ==== Sys2Proof/Decode.lean ====
section
/-! DEFINITION. Decoding: the operation map of 30_encoding.md R79 (keys of the internal operations), the script lines
of R82 and R83 as ASCII text, and the encoder written from the same tables. -/

namespace Sys2Proof

/-! ### Why decoding refuses -/

/-- What a key or a script line can have wrong with it. -/
inductive DecodeError where
  /-- A `sel` that selects nothing: 0b1011 and 0b11xx (R79, R80). -/
  | neverSelected (key : BitVec 4)
  /-- No outbound operation at this position: the status gate is closed (R79 (b)). -/
  | gateClosed
  /-- A line with no operation: blank, or a comment only. -/
  | blankLine
  /-- A first word that is no keyword of R82 or R83. -/
  | unknownKeyword
  /-- Operands that do not have the form R82 or R83 gives the keyword. -/
  | badOperands
  /-- A word that starts with a digit and is neither decimal nor `0x` hexadecimal. -/
  | badNumber
  /-- A number that does not fit its operand (a u16 or a byte). -/
  | outOfRange
  /-- A character that belongs to no word of the syntax. -/
  | badCharacter
  /-- A CONFIG parameter name that R82 does not list. -/
  | unknownParameter
  /-- A CONFIG parameter given twice. -/
  | duplicateParameter
  deriving DecidableEq, Repr

/-! ### The operation map (R79) -/

/-- One row of the map: an operation, selected by every key whose bits under `mask` are those of `pattern`. -/
structure KeyRow (w : Nat) where
  pattern : BitVec w
  mask : BitVec w
  op : Instr
  deriving DecidableEq, Repr

/-- The row selects the key. -/
def KeyRow.selects {w : Nat} (r : KeyRow w) (k : BitVec w) : Bool := decide (k &&& r.mask = r.pattern)

/-- R79 (a): `sel = phase[1:0] ++ st[1:0]`. -/
def selRows : List (KeyRow 4) :=
  [⟨0b0000, 0b1111, .advanceIdle⟩, ⟨0b0001, 0b1111, .advanceCc⟩, ⟨0b0010, 0b1111, .advanceCv⟩,
   ⟨0b0011, 0b1111, .advanceInvalid⟩, ⟨0b0100, 0b1111, .vloopIdle⟩, ⟨0b0101, 0b1111, .vloopCc⟩,
   ⟨0b0110, 0b1111, .vloopCv⟩, ⟨0b0111, 0b1111, .regulateInvalid⟩, ⟨0b1000, 0b1111, .iloopIdle⟩,
   ⟨0b1001, 0b1111, .iloopCc⟩, ⟨0b1010, 0b1111, .iloopCv⟩]

/-- R79 (b): ENC_HEARTBEAT matches every `txkey`, ENC_STATUS only `txkey = 0b1`. Every row that matches runs, in
this order (R144). -/
def txRows : List (KeyRow 1) := [⟨0b0, 0b0, .encHeartbeat⟩, ⟨0b1, 0b1, .encStatus⟩]

/-- R79 (c): `rxkey[3]` a frame is there, `[2]` it carries CONTROL_ID, `[1]` it has 5 bytes, `[0]` its enable byte
is 0 or 1. -/
def rxRows : List (KeyRow 4) :=
  [⟨0b0000, 0b1000, .rxNone⟩, ⟨0b1000, 0b1100, .rxOther⟩, ⟨0b1100, 0b1110, .ctrlBadlen⟩,
   ⟨0b1110, 0b1111, .ctrlBaden⟩, ⟨0b1111, 0b1111, .ctrlOk⟩]

/-- The operation of the first row that selects the key. -/
def selected {w : Nat} (rows : List (KeyRow w)) (k : BitVec w) : Option Instr :=
  (rows.find? fun r => r.selects k).map fun r => r.op

/-- The outbound operations `txkey` selects, in the order they run. -/
def txSelected (k : BitVec 1) : List Instr := (txRows.filter fun r => r.selects k).map fun r => r.op

/-! ### Numbers and words of a script line (R82) -/

def isDecimalDigit (b : Byte) : Bool := decide (0x30 ≤ b.toNat) && decide (b.toNat ≤ 0x39)

/-- The value of a decimal digit. -/
def decimalValue (b : Byte) : Option Nat := if isDecimalDigit b then some (b.toNat - 0x30) else none

/-- The value of a hexadecimal digit, in either case. -/
def hexValue (b : Byte) : Option Nat :=
  if isDecimalDigit b then some (b.toNat - 0x30)
  else if 0x41 ≤ b.toNat ∧ b.toNat ≤ 0x46 then some (b.toNat - 0x37)
  else if 0x61 ≤ b.toNat ∧ b.toNat ≤ 0x66 then some (b.toNat - 0x57)
  else none

/-- A run of digits, most significant first. -/
def digitsValue (base : Nat) (value : Byte → Option Nat) : Nat → List Byte → Option Nat
  | acc, [] => some acc
  | acc, b :: bs =>
    match value b with
    | some d => digitsValue base value (acc * base + d) bs
    | none => none

/-- "Numbers are decimal, or hexadecimal with `0x`" (R82). -/
def numberValue : List Byte → Option Nat
  | b0 :: b1 :: d :: ds =>
    if b0 = 0x30 ∧ b1 = 0x78 then digitsValue 16 hexValue 0 (d :: ds)
    else digitsValue 10 decimalValue 0 (b0 :: b1 :: d :: ds)
  | b :: bs => digitsValue 10 decimalValue 0 (b :: bs)
  | [] => none

/-- A character of a keyword or parameter name: A to Z and underscore. -/
def isNameByte (b : Byte) : Bool := (decide (0x41 ≤ b.toNat) && decide (b.toNat ≤ 0x5A)) || decide (b = 0x5F)

/-- Space, tab, and the line ends LF and CR. -/
def isSpace (b : Byte) : Bool :=
  decide (b = 0x20) || decide (b = 0x09) || decide (b = 0x0A) || decide (b = 0x0D)

/-- The words of a script line. -/
inductive Token where
  | name (s : List Byte)
  | num (n : Nat)
  | comma
  | equals
  | lbracket
  | rbracket
  deriving DecidableEq, Repr

/-- The tokens of one character. -/
def punctuation (b : Byte) : Option Token :=
  if b = 0x2C then some .comma
  else if b = 0x3D then some .equals
  else if b = 0x5B then some .lbracket
  else if b = 0x5D then some .rbracket
  else none

/-- A run of characters with no space and no punctuation in it. -/
def wordToken (w : List Byte) : Except DecodeError Token :=
  if w.head?.any isDecimalDigit then
    match numberValue w with
    | some n => .ok (.num n)
    | none => .error .badNumber
  else if w.all isNameByte then .ok (.name w)
  else .error .badCharacter

/-- Put the word gathered so far, if any, before the tokens after it. -/
def withWord (w : List Byte) (after : List Token) : Except DecodeError (List Token) :=
  if w = [] then .ok after
  else
    match wordToken w with
    | .ok t => .ok (t :: after)
    | .error e => .error e

/-- The tokens of a line; `w` is the word gathered so far. `;` starts a comment (R82). -/
def lex : List Byte → List Byte → Except DecodeError (List Token)
  | w, [] => withWord w []
  | w, b :: bs =>
    if b = 0x3B then withWord w []
    else if isSpace b then
      match lex [] bs with
      | .ok ts => withWord w ts
      | .error e => .error e
    else
      match punctuation b with
      | some t =>
        match lex [] bs with
        | .ok ts => withWord w (t :: ts)
        | .error e => .error e
      | none => lex (w ++ [b]) bs

/-! ### Keywords and parameter names, as ASCII -/

def kwTick : List Byte := [0x54, 0x49, 0x43, 0x4B]
def kwSense : List Byte := [0x53, 0x45, 0x4E, 0x53, 0x45]
def kwRxq : List Byte := [0x52, 0x58, 0x51]
def kwConfig : List Byte := [0x43, 0x4F, 0x4E, 0x46, 0x49, 0x47]
def kwReset : List Byte := [0x52, 0x45, 0x53, 0x45, 0x54]
def kwCtrl : List Byte := [0x43, 0x54, 0x52, 0x4C]
def kwStep : List Byte := [0x53, 0x54, 0x45, 0x50]
def kwBoot : List Byte := [0x42, 0x4F, 0x4F, 0x54]

def kwMinCurrent : List Byte := [0x4D, 0x49, 0x4E, 0x5F, 0x43, 0x55, 0x52, 0x52, 0x45, 0x4E, 0x54]
def kwHeartbeatId : List Byte := [0x48, 0x45, 0x41, 0x52, 0x54, 0x42, 0x45, 0x41, 0x54, 0x5F, 0x49, 0x44]
def kwStatusId : List Byte := [0x53, 0x54, 0x41, 0x54, 0x55, 0x53, 0x5F, 0x49, 0x44]
def kwControlId : List Byte := [0x43, 0x4F, 0x4E, 0x54, 0x52, 0x4F, 0x4C, 0x5F, 0x49, 0x44]
def kwIdWidth : List Byte := [0x49, 0x44, 0x5F, 0x57, 0x49, 0x44, 0x54, 0x48]
def kwHbCode : List Byte := [0x48, 0x42, 0x5F, 0x43, 0x4F, 0x44, 0x45]

/-! ### Operands (R82, R83) -/

/-- A u16 operand. -/
def wordOperand (n : Nat) : Except DecodeError Word :=
  if n < 2 ^ 16 then .ok (BitVec.ofNat 16 n) else .error .outOfRange

/-- A byte operand. -/
def byteOperand (n : Nat) : Except DecodeError Byte :=
  if n < 2 ^ 8 then .ok (BitVec.ofNat 8 n) else .error .outOfRange

/-- The operands `<v>, <i>`. -/
def twoWords (op : Word → Word → Instr) : List Token → Except DecodeError Instr
  | [.num v, .comma, .num i] =>
    match wordOperand v, wordOperand i with
    | .ok v, .ok i => .ok (op v i)
    | _, _ => .error .outOfRange
  | _ => .error .badOperands

/-- The operand list is empty. -/
def noOperands (op : Instr) : List Token → Except DecodeError Instr
  | [] => .ok op
  | _ => .error .badOperands

/-- The rest of a byte list after a byte: `]`, or a comma and a further byte. -/
def moreBytes : List Token → Except DecodeError (List Byte)
  | [.rbracket] => .ok []
  | .comma :: .num n :: ts =>
    match byteOperand n, moreBytes ts with
    | .ok b, .ok bs => .ok (b :: bs)
    | .error e, _ => .error e
    | _, .error e => .error e
  | _ => .error .badOperands

/-- A byte list after its `[`; it may be empty. -/
def byteList : List Token → Except DecodeError (List Byte)
  | [.rbracket] => .ok []
  | .num n :: ts => moreBytes (.comma :: .num n :: ts)
  | _ => .error .badOperands

/-- The operands of RXQ. -/
def rxqOperands : List Token → Except DecodeError Instr
  | .num id :: .comma :: .lbracket :: ts =>
    match byteList ts with
    | .ok data => .ok (.rxq id data)
    | .error e => .error e
  | _ => .error .badOperands

/-- The operands of CTRL: `<e>` is a byte and is not checked further (R83). -/
def ctrlOperands : List Token → Except DecodeError Instr
  | [.num v, .comma, .num i, .comma, .num e] =>
    match wordOperand v, wordOperand i, byteOperand e with
    | .ok v, .ok i, .ok e => .ok (.ctrl v i e)
    | _, _, _ => .error .outOfRange
  | _ => .error .badOperands

/-- The operand of BOOT. -/
def bootOperand : List Token → Except DecodeError Instr
  | [.num n] =>
    match wordOperand n with
    | .ok n => .ok (.boot n)
    | .error e => .error e
  | _ => .error .badOperands

/-- Give a CONFIG parameter its value once. -/
def giveOnce {α : Type} (old : Option α) (v : α) : Except DecodeError (Option α) :=
  match old with
  | none => .ok (some v)
  | some _ => .error .duplicateParameter

/-- One `NAME=<n>` of a CONFIG line. -/
def giveNumber (a : ConfigArgs) (k : List Byte) (n : Nat) : Except DecodeError ConfigArgs :=
  if k = kwMinCurrent then
    match wordOperand n with
    | .ok w => (giveOnce a.minCurrent w).map fun x => { a with minCurrent := x }
    | .error e => .error e
  else if k = kwHeartbeatId then (giveOnce a.heartbeatId n).map fun x => { a with heartbeatId := x }
  else if k = kwStatusId then (giveOnce a.statusId n).map fun x => { a with statusId := x }
  else if k = kwControlId then (giveOnce a.controlId n).map fun x => { a with controlId := x }
  else if k = kwIdWidth then (giveOnce a.idWidth n).map fun x => { a with idWidth := x }
  else .error .unknownParameter

/-- The `HB_CODE=[<c0>, <c1>, <c2>]` of a CONFIG line. -/
def giveCodes (a : ConfigArgs) (k : List Byte) (c0 c1 c2 : Nat) : Except DecodeError ConfigArgs :=
  if k = kwHbCode then
    match byteOperand c0, byteOperand c1, byteOperand c2 with
    | .ok b0, .ok b1, .ok b2 => (giveOnce a.hbCode (b0, b1, b2)).map fun x => { a with hbCode := x }
    | _, _, _ => .error .outOfRange
  else .error .unknownParameter

/-- The parameters of a CONFIG line, each after a comma. -/
def parameters : ConfigArgs → List Token → Except DecodeError ConfigArgs
  | a, [] => .ok a
  | a, .comma :: .name k :: .equals :: .num n :: ts =>
    match giveNumber a k n with
    | .ok a => parameters a ts
    | .error e => .error e
  | a, .comma :: .name k :: .equals :: .lbracket :: .num c0 :: .comma :: .num c1 :: .comma :: .num c2 ::
      .rbracket :: ts =>
    match giveCodes a k c0 c1 c2 with
    | .ok a => parameters a ts
    | .error e => .error e
  | _, _ => .error .badOperands

/-- The operands of CONFIG; "any parameter left out keeps its model argument" (R82). -/
def configOperands : List Token → Except DecodeError Instr
  | [] => .ok (.config {})
  | ts =>
    match parameters {} (.comma :: ts) with
    | .ok a => .ok (.config a)
    | .error e => .error e

/-- The operation of a line's tokens, by its keyword (R79 (d), R82, R83). -/
def parse : List Token → Except DecodeError Instr
  | [] => .error .blankLine
  | .name k :: ts =>
    if k = kwTick then noOperands .tick ts
    else if k = kwReset then noOperands .reset ts
    else if k = kwSense then twoWords .sense ts
    else if k = kwStep then twoWords .step ts
    else if k = kwRxq then rxqOperands ts
    else if k = kwCtrl then ctrlOperands ts
    else if k = kwBoot then bootOperand ts
    else if k = kwConfig then configOperands ts
    else .error .unknownKeyword
  | _ => .error .unknownKeyword

/-- The operation of one script line. Total on any bytes. -/
def decodeLine (l : List Byte) : Except DecodeError Instr :=
  match lex [] l with
  | .ok ts => parse ts
  | .error e => .error e

/-! ### The decoder -/

/-- What selects an operation: one of the four kinds of key of R79. `tx k n` is the `n`-th of the operations that
`txkey = k` selects (both run when the gate is open). -/
inductive Code where
  | sel (k : BitVec 4)
  | tx (k : BitVec 1) (n : Nat)
  | rx (k : BitVec 4)
  | line (l : List Byte)
  deriving DecidableEq, Repr

/-- The operation a key selects (R79). -/
def decode : Code → Except DecodeError Instr
  | .sel k =>
    match selected selRows k with
    | some i => .ok i
    | none => .error (.neverSelected k)
  | .tx k n =>
    match (txSelected k)[n]? with
    | some i => .ok i
    | none => .error .gateClosed
  | .rx k =>
    match selected rxRows k with
    | some i => .ok i
    | none => .error (.neverSelected k)
  | .line l => decodeLine l

/-! ### The encoder -/

/-- An upper-case hexadecimal digit. -/
def hexDigit (n : Nat) : Byte := if n < 10 then BitVec.ofNat 8 (0x30 + n) else BitVec.ofNat 8 (0x37 + n)

/-- The lowest `digits` hexadecimal digits of `n`, most significant first. -/
def hexDigits : Nat → Nat → List Byte
  | 0, _ => []
  | d + 1, n => hexDigits d (n / 16) ++ [hexDigit (n % 16)]

/-- `0x` and that many hexadecimal digits. -/
def hexText (digits n : Nat) : List Byte := 0x30 :: 0x78 :: hexDigits digits n

def wordText (w : Word) : List Byte := hexText 4 w.toNat

def byteText (b : Byte) : List Byte := hexText 2 b.toNat

/-- An identifier below `2^29` in eight digits. -/
def idText (id : Nat) : List Byte := hexText 8 id

/-- Items with a comma and a space between them. -/
def commaText : List (List Byte) → List Byte
  | [] => []
  | [x] => x
  | x :: y :: xs => x ++ [0x2C, 0x20] ++ commaText (y :: xs)

def bracketText (bs : List Byte) : List Byte := 0x5B :: (commaText (bs.map byteText) ++ [0x5D])

/-- `NAME=<value>`, if the parameter is given. -/
def parameterText {α : Type} (name : List Byte) (value : α → List Byte) (x : Option α) : List (List Byte) :=
  match x with
  | some v => [name ++ 0x3D :: value v]
  | none => []

/-- The parameters of a CONFIG line, in the order R82 writes them. -/
def configTexts (a : ConfigArgs) : List (List Byte) :=
  parameterText kwMinCurrent wordText a.minCurrent ++ parameterText kwHeartbeatId idText a.heartbeatId ++
    parameterText kwStatusId idText a.statusId ++ parameterText kwControlId idText a.controlId ++
    parameterText kwIdWidth (hexText 2) a.idWidth ++
    parameterText kwHbCode (fun c => bracketText [c.1, c.2.1, c.2.2]) a.hbCode

/-- A keyword and its operands. -/
def lineText (kw : List Byte) (operands : List (List Byte)) : Code := .line (kw ++ 0x20 :: commaText operands)

/-- The code of an operation: its key in the map of R79, or its script line (R82, R83). -/
def encode : Instr → Code
  | .advanceIdle => .sel 0b0000
  | .advanceCc => .sel 0b0001
  | .advanceCv => .sel 0b0010
  | .advanceInvalid => .sel 0b0011
  | .vloopIdle => .sel 0b0100
  | .vloopCc => .sel 0b0101
  | .vloopCv => .sel 0b0110
  | .regulateInvalid => .sel 0b0111
  | .iloopIdle => .sel 0b1000
  | .iloopCc => .sel 0b1001
  | .iloopCv => .sel 0b1010
  | .encHeartbeat => .tx 0b0 0
  | .encStatus => .tx 0b1 1
  | .rxNone => .rx 0b0000
  | .rxOther => .rx 0b1000
  | .ctrlBadlen => .rx 0b1100
  | .ctrlBaden => .rx 0b1110
  | .ctrlOk => .rx 0b1111
  | .tick => .line kwTick
  | .sense v i => lineText kwSense [wordText v, wordText i]
  | .rxq id data => lineText kwRxq [idText id, bracketText data]
  | .config a => lineText kwConfig (configTexts a)
  | .reset => .line kwReset
  | .ctrl v i e => lineText kwCtrl [wordText v, wordText i, byteText e]
  | .step v i => lineText kwStep [wordText v, wordText i]
  | .boot n => lineText kwBoot [wordText n]

/-! ### Table words (log entry 8) -/

/-- `n` bytes of a number, least significant first. -/
def bytesOfNat : Nat → Nat → List Byte
  | 0, _ => []
  | n + 1, w => BitVec.ofNat 8 w :: bytesOfNat n (w / 256)

/-- A bare word of the table: no bytes are the empty pattern of ENC_HEARTBEAT; one key value (with zeros above it) is
looked up among the rows of R79 in the table's order; anything else is a script line. -/
def decodeBytes : List Byte → Except DecodeError Instr
  | [] => .ok .encHeartbeat
  | b :: bs =>
    if b.toNat < 16 ∧ bs.all (fun z => decide (z = 0)) then
      match decode (.sel (b.setWidth 4)) with
      | .ok i => .ok i
      | .error _ => decode (.rx (b.setWidth 4))
    else decodeLine (b :: bs)

/-- The operation the decoder reads from a word of spec/opcode_table.json with that many bits. -/
def decodeTableWord (nbits w : Nat) : Option Instr :=
  match decodeBytes (bytesOfNat ((nbits + 7) / 8) w) with
  | .ok i => some i
  | .error _ => none

end Sys2Proof
end

