-- ==== Sys2Proof/Machine/State.lean ====
section
/-! DEFINITION. The state of the block and of its host, as plain data; the ways a step can stop; the state after
reset (10_state.md, 44_cycle_and_host.md, 60_exceptions.md, 70_reset_and_hazards.md R230). -/

namespace Sys2Proof.Machine

/-! ### Frames, commands, reports, events -/

/-- A CAN frame: identifier and payload (R11). Its `len` is the number of payload bytes. -/
structure Frame where
  id : Nat
  data : List Byte
  deriving DecidableEq, Repr

/-- The payload length of a frame (R11). -/
def Frame.len (f : Frame) : Nat := f.data.length

/-- An actuation command (R77). -/
inductive Command where
  | stopAll
  | setVoltage (v : Word)
  | setCurrent (v : Word)
  deriving DecidableEq, Repr

/-- A report, with the information recorded with it (R201). -/
inductive Report where
  /-- Code 1: the frame (R165). -/
  | invalidEnableValue (f : Frame)
  /-- Code 2: the frame (R164). -/
  | invalidLength (f : Frame)
  /-- Code 3: the raw `op_state` (R104). -/
  | invalidStateAdvance (raw : BitVec 2)
  /-- Code 4: the raw `op_state` (R128). -/
  | invalidStateRegulate (raw : BitVec 2)
  deriving DecidableEq, Repr

/-- An event of a cycle's trace (R13). -/
inductive Event where
  | act (c : Command)
  | tx (f : Frame)
  | rxPoll (r : Option Frame)
  | report (r : Report)
  deriving DecidableEq, Repr

/-! ### Encodings of the enumerated registers (R74, R75, R76) -/

namespace OpState
def idle : BitVec 2 := 0b00
def constantCurrent : BitVec 2 := 0b01
def constantVoltage : BitVec 2 := 0b10
/-- The encoding that names no state (R23). -/
def invalid : BitVec 2 := 0b11
end OpState

namespace NetState
def init : BitVec 2 := 0b00
def preOperate : BitVec 2 := 0b01
def operate : BitVec 2 := 0b10
/-- Never written (R80). -/
def unused : BitVec 2 := 0b11
end NetState

namespace ActionKind
def stopAll : BitVec 2 := 0b00
def setVoltage : BitVec 2 := 0b01
def setCurrent : BitVec 2 := 0b10
/-- Never written (R80). -/
def unused : BitVec 2 := 0b11
end ActionKind

/-! ### The registers (R22) -/

/-- The block's registers. A feedback register's value means something only when its `written` bit is true (R28). -/
structure Regs where
  opState : BitVec 2
  netState : BitVec 2
  setpointVoltage : Word
  setpointCurrent : Word
  enable : Bool
  minCurrent : Word
  feedbackVoltage : Word
  feedbackCurrent : Word
  feedbackVoltageWritten : Bool
  feedbackCurrentWritten : Bool
  lastAction : BitVec 2
  deriving DecidableEq, Repr

/-- The reset values (R230), for a configuration. The two feedback values are not readable until SENSE writes them
(R34): the 0 that stands there is a DESIGN CHOICE, log entry 3. -/
def Regs.reset (p : Params) : Regs where
  opState := OpState.idle
  netState := NetState.init
  setpointVoltage := 0
  setpointCurrent := 0
  enable := false
  minCurrent := p.minCurrent
  feedbackVoltage := 0
  feedbackCurrent := 0
  feedbackVoltageWritten := false
  feedbackCurrentWritten := false
  lastAction := ActionKind.stopAll

/-! ### The sequencer and the host -/

/-- The phases of a cycle (R21). -/
inductive Phase where
  | sm
  | reg
  | proto
  deriving DecidableEq, Repr

/-- Where the block stands in R180's list of operations: which one comes next. -/
inductive Slot where
  /-- At a cycle boundary: the host moves next. -/
  | between
  | advance
  | vloop
  | iloop
  | heartbeat
  | status
  | poll
  deriving DecidableEq, Repr

/-- The phase a slot belongs to (R21: at a boundary it stands at SM). -/
def Slot.phase : Slot → Phase
  | .between => .sm
  | .advance => .sm
  | .vloop => .reg
  | .iloop => .reg
  | .heartbeat => .proto
  | .status => .proto
  | .poll => .proto

/-- How far the host has come with its boot duties (R187 (1), R189). Model bookkeeping, log entry 1. -/
inductive Stage where
  /-- The block holds its reset values and the host has done nothing yet: CONFIG may still run. -/
  | fresh
  /-- CONFIG has run: RESET must come before the next TICK. -/
  | configured
  /-- RESET or TICK has run: the parameters are constant (R186). -/
  | running
  deriving DecidableEq, Repr

/-- What a completed cycle leaves to observe: its trace and the registers after it (R13, R190). -/
structure CycleRecord where
  trace : List Event
  regs : Regs
  deriving DecidableEq, Repr

/-- The whole machine: the block's registers and sequencer, and the host that drives it. -/
structure State where
  /-- The registers of R22. -/
  regs : Regs
  /-- The phase sequencer (R21), refined to the operation that comes next. -/
  slot : Slot
  /-- The result of this cycle's `rx()` while DEC_CONTROL works on it (R160, R161). -/
  rxAnswer : Option Frame
  /-- The configuration parameters in force (R186). -/
  cfg : Params
  /-- The model's arguments, which a parameter left out of CONFIG keeps (R82). Nothing writes them. -/
  args : Params
  /-- How far the host has booted (R187). -/
  stage : Stage
  /-- The host's queue of received frames, oldest first (R183). -/
  rxQueue : List Frame
  /-- The host's script still to run, line by line (R82). -/
  script : List (List Byte)
  /-- The event trace of the cycle being run or of the last one (R13). -/
  trace : List Event
  /-- The completed cycles, oldest first (R190). -/
  history : List CycleRecord
  deriving DecidableEq, Repr

/-- The spec's `phase` (R21). -/
def State.phase (s : State) : Phase := s.slot.phase

/-! ### Stops -/

/-- The feedback registers, to name one in a fault (R206). -/
inductive FeedbackReg where
  | voltage
  | current
  deriving DecidableEq, Repr

/-- The operation rules that read a feedback register, to name one in a fault (R206). -/
inductive ReadRule where
  | r102
  | r103
  | r123
  | r125
  | r142
  deriving DecidableEq, Repr

/-- The faults: breaches of a host duty (R12, R187). -/
inductive Fault where
  /-- R206: an operation read a feedback register that SENSE never wrote. Raised by ADVANCE.CC, ADVANCE.CV, VLOOP.CV,
  ILOOP.CC and ENC_STATUS, and by TICK and STEP through them. Safe: the spec names this fault. -/
  | feedbackUnwritten (reg : FeedbackReg) (rule : ReadRule)
  /-- R187 (1): TICK (or STEP) after CONFIG with no RESET between them. Safe: the machine stops. Log entry 12. -/
  | tickBeforeReset
  deriving DecidableEq, Repr

/-- What makes a configuration illegal (R7, R186, R207). -/
inductive ConfigProblem where
  | widthNotAllowed
  | identifierTooWide
  | identifiersNotDistinct
  | heartbeatCodesNotDistinct
  deriving DecidableEq, Repr

/-- The refusals: what the model does not accept, with no step from it. -/
inductive Refusal where
  /-- An instruction with no meaning yet. No arm of exec answers it. Safe. -/
  | notModelled (mnemonic : String)
  /-- R82: a script line outside the syntax. Raised by the fetch. Safe. -/
  | badLine (e : DecodeError)
  /-- R80: a key that selects no operation, reachable only from a state given mid-cycle. Raised by the fetch. Safe. -/
  | badKey (e : DecodeError)
  /-- R207: a launch state with `net_state = 0b11`. Raised by step, and by ENC_HEARTBEAT which has no code for it.
  Safe. -/
  | netStateUnused
  /-- R207: a launch state with `last_action = 0b11`. Raised by step. Safe. -/
  | lastActionUnused
  /-- R186, R207: a configuration that breaks R7. Raised by CONFIG and BOOT, and in a launch state by step, TICK and STEP.
  Safe. -/
  | configIllegal (p : ConfigProblem)
  /-- R186, R189: CONFIG (or BOOT) after RESET. Safe. -/
  | configAfterReset
  /-- R207: a frame of more than 8 bytes. Raised by RXQ, CTRL and the poll. Safe. -/
  | frameTooLong
  /-- R207: a frame whose identifier does not fit ID_WIDTH bits. Raised by RXQ, CTRL and the poll. Safe. -/
  | frameIdTooWide
  /-- R181, R187 (2), 93 I16: a host operation inside a cycle. Raised by every host operation. Safe. -/
  | hostOperationInCycle
  /-- R11, R78: an inbound class run with no frame, or with a frame that lacks the bytes the class reads. Raised by
  CTRL_BADLEN, CTRL_BADEN and CTRL_OK, never when R161 selects them. Safe. Log entry 15. -/
  | rxOperandMissing
  deriving DecidableEq, Repr

/-- The machine right after reset (R230), under the model's arguments, with no script, no queued frame and nothing
observed yet. Log entries 1, 2, 3, 5, 11, 15. -/
def State.reset : State where
  regs := Regs.reset Config.modelArgs
  slot := .between
  rxAnswer := none
  cfg := Config.modelArgs
  args := Config.modelArgs
  stage := .fresh
  rxQueue := []
  script := []
  trace := []
  history := []

end Sys2Proof.Machine
end

