-- ==== Sys2Proof/Machine/Flags.lean ====
section
/-! DEFINITION. The comparisons of the block and its one flag (R25). The block has no condition codes: what this
file holds is every comparison and every value `enable` can be given. -/

namespace Sys2Proof.Machine

/-- Unsigned 16-bit `a >= b` (R102, R111). -/
def atLeast (a b : Word) : Bool := decide (b.toNat ≤ a.toNat)

/-- Unsigned 16-bit `a <= b` (R103, R111). -/
def atMost (a b : Word) : Bool := decide (a.toNat ≤ b.toNat)

/-- 16-bit inequality, with no tolerance (R123, R125, R130). -/
def differs (a b : Word) : Bool := decide (a ≠ b)

/-- The enable flag a control frame's byte 4 stands for: defined for 0x00 and 0x01 only (R78). -/
def enableOfByte (b : Byte) : Option Bool :=
  if b = 0x00 then some false else if b = 0x01 then some true else none

end Sys2Proof.Machine
end

