-- ==== Sys2Proof/Machine/Operands.lean ====
section
/-! DEFINITION. Operand forms: byte packing (R10, R54), the bytes of the frames (R71 to R73, R78), the heartbeat code
(R75), the actuation port (R77), report codes (R201), the configuration's operands (R82, R186), the keys of the
operation map (R79) and reading a feedback register (R28, R206). -/

namespace Sys2Proof.Machine

/-- `v[15:8]` (R10). -/
def hi8 (v : Word) : Byte := v.extractLsb' 8 8

/-- `v[7:0]` (R10). -/
def lo8 (v : Word) : Byte := v.extractLsb' 0 8

/-- The u16 whose first byte on the wire is `b0` (R10, R54). -/
def be16 (b0 b1 : Byte) : Word := b0.setWidth 16 <<< 8 ||| b1.setWidth 16

/-- `HB_CODE(net_state)` (R71, R75); the encoding 0b11 has none. -/
def hbCode (p : Params) (n : BitVec 2) : Option Byte :=
  if n = NetState.init then some p.hbInit
  else if n = NetState.preOperate then some p.hbPreOperate
  else if n = NetState.operate then some p.hbOperate
  else none

/-- The heartbeat frame with that code (R71). -/
def heartbeatFrame (p : Params) (code : Byte) : Frame := ⟨p.heartbeatId, [code]⟩

/-- The status frame with those feedback values (R72). -/
def statusFrame (p : Params) (v i : Word) : Frame := ⟨p.statusId, [hi8 v, lo8 v, hi8 i, lo8 i]⟩

/-- The payload CTRL gives its frame (R83). -/
def controlBytes (v i : Word) (e : Byte) : List Byte := [hi8 v, lo8 v, hi8 i, lo8 i, e]

/-- The kind of a command, as `last_action` and the actuation port encode it (R76, R77). -/
def Command.kind : Command → BitVec 2
  | .stopAll => ActionKind.stopAll
  | .setVoltage _ => ActionKind.setVoltage
  | .setCurrent _ => ActionKind.setCurrent

/-- A command as a value of the actuation port, `(kind, value)` (R77). -/
def Command.port : Command → BitVec 2 × Word
  | .stopAll => (ActionKind.stopAll, 0)
  | .setVoltage v => (ActionKind.setVoltage, v)
  | .setCurrent v => (ActionKind.setCurrent, v)

/-- The code of a report (R201). -/
def Report.code : Report → Nat
  | .invalidEnableValue _ => 1
  | .invalidLength _ => 2
  | .invalidStateAdvance _ => 3
  | .invalidStateRegulate _ => 4

/-! ### Configuration -/

/-- What is illegal about a configuration, the first thing found (R7, R186, R207). -/
def configProblem (p : Params) : Option ConfigProblem :=
  if ¬(p.idWidth = 11 ∨ p.idWidth = 29) then some .widthNotAllowed
  else if ¬(p.heartbeatId < 2 ^ p.idWidth ∧ p.statusId < 2 ^ p.idWidth ∧ p.controlId < 2 ^ p.idWidth) then
    some .identifierTooWide
  else if p.heartbeatId = p.statusId ∨ p.heartbeatId = p.controlId ∨ p.statusId = p.controlId then
    some .identifiersNotDistinct
  else if p.hbInit = p.hbPreOperate ∨ p.hbInit = p.hbOperate ∨ p.hbPreOperate = p.hbOperate then
    some .heartbeatCodesNotDistinct
  else none

/-- The configuration a CONFIG line fixes: a parameter left out keeps its model argument (R82). -/
def configured (args : Params) (a : ConfigArgs) : Params where
  idWidth := a.idWidth.getD args.idWidth
  heartbeatId := a.heartbeatId.getD args.heartbeatId
  statusId := a.statusId.getD args.statusId
  controlId := a.controlId.getD args.controlId
  minCurrent := a.minCurrent.getD args.minCurrent
  hbInit := (a.hbCode.map fun c => c.1).getD args.hbInit
  hbPreOperate := (a.hbCode.map fun c => c.2.1).getD args.hbPreOperate
  hbOperate := (a.hbCode.map fun c => c.2.2).getD args.hbOperate

/-- Why a frame cannot be handed to the block (R207). -/
def frameProblem (p : Params) (f : Frame) : Option Refusal :=
  if Config.maxPayload < f.len then some .frameTooLong
  else if 2 ^ p.idWidth ≤ f.id then some .frameIdTooWide
  else none

/-! ### Keys (R79) -/

/-- `sel = phase[1:0] ++ st[1:0]` (R79 (a)). -/
def selKey (phase st : BitVec 2) : BitVec 4 := phase ++ st

/-- `txkey[0] = (net_state = Operate)` (R79 (b)). -/
def txKey (r : Regs) : BitVec 1 := BitVec.ofBool (decide (r.netState = NetState.operate))

/-- `f.data[4] ∈ {0x00, 0x01}`; false where there is no `data[4]` (R79 (c)). -/
def hasValidEnable (f : Frame) : Bool :=
  match f.data[4]? with
  | some b => (enableOfByte b).isSome
  | none => false

/-- `rxkey` of a poll's answer (R79 (c)): a bit whose test cannot be made is 0. -/
def rxKey (p : Params) : Option Frame → BitVec 4
  | none => 0
  | some f =>
    BitVec.ofBool true ++ BitVec.ofBool (decide (f.id = p.controlId)) ++
      BitVec.ofBool (decide (Config.ctrlMinLen ≤ f.len)) ++ BitVec.ofBool (hasValidEnable f)

/-! ### Feedback (R28, R206) -/

/-- Read `feedback_voltage` for the operation of that rule. -/
def readFeedbackVoltage (rule : ReadRule) (r : Regs) : Except Fault Word :=
  if r.feedbackVoltageWritten then .ok r.feedbackVoltage else .error (.feedbackUnwritten .voltage rule)

/-- Read `feedback_current` for the operation of that rule. -/
def readFeedbackCurrent (rule : ReadRule) (r : Regs) : Except Fault Word :=
  if r.feedbackCurrentWritten then .ok r.feedbackCurrent else .error (.feedbackUnwritten .current rule)

end Sys2Proof.Machine
end

