-- ==== Sys2Proof/Machine/Ops.lean ====
section
/-! DEFINITION. The named operations on the state: register writes, the pseudocode primitives `act`, `tx`, `report` and
`rx` (R12), the cycle boundary, and running one operation after another. The block has no traps (R200, R205): `report`
is the one shared operation for an error, and control goes on after it. -/

namespace Sys2Proof.Machine

/-- What an operation answers. -/
abbrev Result := Host.Outcome State Fault Refusal

/-- Run one operation, then the next; a stop of the first is final (R206). -/
def andThen (o : Result) (k : State → Result) : Result :=
  match o with
  | .next s => k s
  | .fault f => .fault f
  | .refused r => .refused r

/-! ### Register writes (R22: each register's writers) -/

def State.setOpState (s : State) (v : BitVec 2) : State := { s with regs := { s.regs with opState := v } }

def State.setNetState (s : State) (v : BitVec 2) : State := { s with regs := { s.regs with netState := v } }

/-- `{ op_state <- Idle ; enable <- false }`, one indivisible update (R58, R103). -/
def State.endCharge (s : State) : State :=
  { s with regs := { s.regs with opState := OpState.idle, enable := false } }

/-- The control update: all three registers at once (R57, R166). -/
def State.applyControl (s : State) (v i : Word) (e : Bool) : State :=
  { s with regs := { s.regs with setpointVoltage := v, setpointCurrent := i, enable := e } }

/-- SENSE's write: both feedback registers and both written bits (R182). -/
def State.setFeedback (s : State) (v i : Word) : State :=
  { s with regs := { s.regs with
      feedbackVoltage := v, feedbackCurrent := i, feedbackVoltageWritten := true, feedbackCurrentWritten := true } }

def State.setLastAction (s : State) (v : BitVec 2) : State := { s with regs := { s.regs with lastAction := v } }

/-! ### Primitives (R12) -/

/-- Append an event to the cycle's trace (R13). -/
def State.emit (s : State) (e : Event) : State := { s with trace := s.trace ++ [e] }

/-- `act(c)`: hand a command to the actuation sink (R184). -/
def State.act (s : State) (c : Command) : State := s.emit (.act c)

/-- `tx(f)`: hand a frame to the transport (R145, R185). -/
def State.tx (s : State) (f : Frame) : State := s.emit (.tx f)

/-- `report(r)`: an error is recorded and handed to the log; nothing else changes and the cycle goes on (R200, R205). -/
def State.report (s : State) (r : Report) : State := s.emit (.report r)

/-- `act(c)` and `last_action <- kind of c` (R121, R123 to R125, R127). -/
def State.issue (s : State) (c : Command) : State := (s.act c).setLastAction c.kind

def State.setRxAnswer (s : State) (r : Option Frame) : State := { s with rxAnswer := r }

/-- `r := rx()`: take the oldest queued frame, or nothing if there is none (R160, R183); a frame that cannot be handed
over is refused (R207). -/
def poll (s : State) : Except Refusal State :=
  match s.rxQueue with
  | [] => .ok ({ s with rxAnswer := none }.emit (.rxPoll none))
  | f :: fs =>
    match frameProblem s.cfg f with
    | some r => .error r
    | none => .ok ({ s with rxAnswer := some f, rxQueue := fs }.emit (.rxPoll (some f)))

/-! ### The cycle boundary and the host's side -/

def State.setSlot (s : State) (x : Slot) : State := { s with slot := x }

def State.setScript (s : State) (x : List (List Byte)) : State := { s with script := x }

/-- A cycle starts: phase SM, an empty trace; from here on the parameters are constant (R21, R186). -/
def State.beginCycle (s : State) : State := { s with slot := .advance, stage := .running, trace := [] }

/-- A cycle ends: the phase returns to SM, and the trace and the registers are observed (R13, R180, R190). -/
def State.endCycle (s : State) : State :=
  { s with slot := .between, history := s.history ++ [⟨s.trace, s.regs⟩] }

/-- CONFIG's write (R186). -/
def State.setConfig (s : State) (p : Params) : State := { s with cfg := p, stage := .configured }

/-- RXQ's write: the frame goes to the end of the queue (R183). -/
def State.enqueue (s : State) (f : Frame) : State := { s with rxQueue := s.rxQueue ++ [f] }

/-- RESET's write (R230): every register, and the sequencer; the host's queue, script and observation stay (log
entry 11). -/
def State.applyReset (s : State) : State :=
  { s with regs := Regs.reset s.cfg, slot := .between, rxAnswer := none, stage := .running }

/-- A host operation takes effect between cycles only (R181, R187 (2)). -/
def betweenCycles (s : State) (r : Result) : Result :=
  if s.slot = .between then r else .refused .hostOperationInCycle

/-- Why the model has no step from a launch state (R207): an unused encoding (R80), or a configuration for which there is
no block (R186). -/
def launchProblem (s : State) : Option Refusal :=
  if s.regs.netState = NetState.unused then some .netStateUnused
  else if s.regs.lastAction = ActionKind.unused then some .lastActionUnused
  else (configProblem s.cfg).map .configIllegal

end Sys2Proof.Machine
end

