-- ==== Sys2Proof/Machine/Advance.lean ====
section
/-! DEFINITION. The charger state machine (40_state_machine.md): ADVANCE and its four operations. -/

namespace Sys2Proof.Machine

/-- ADVANCE.IDLE (R101): the transition depends on `enable` alone. -/
def execAdvanceIdle (s : State) : Result :=
  .next ((s.setNetState NetState.preOperate).setOpState
    (if s.regs.enable then OpState.constantCurrent else OpState.idle))

/-- ADVANCE.CC (R102): equality counts as crossing. -/
def execAdvanceCc (s : State) : Result :=
  match readFeedbackVoltage .r102 s.regs with
  | .error f => .fault f
  | .ok v =>
    .next ((s.setNetState NetState.operate).setOpState
      (if atLeast v s.regs.setpointVoltage then OpState.constantVoltage else OpState.constantCurrent))

/-- ADVANCE.CV (R103): equality ends the charge, and `enable` is cleared with it. -/
def execAdvanceCv (s : State) : Result :=
  match readFeedbackCurrent .r103 s.regs with
  | .error f => .fault f
  | .ok i =>
    .next
      (if atMost i s.regs.minCurrent then (s.setNetState NetState.operate).endCharge
       else (s.setNetState NetState.operate).setOpState OpState.constantVoltage)

/-- ADVANCE.INVALID (R104, 90_conflicts.md C5): report and hold every register. -/
def execAdvanceInvalid (s : State) : Result := .next (s.report (.invalidStateAdvance s.regs.opState))

/-- ADVANCE (R100): dispatch on the state held at cycle entry. -/
def advance (s : State) : Result :=
  if s.regs.opState = OpState.idle then execAdvanceIdle s
  else if s.regs.opState = OpState.constantCurrent then execAdvanceCc s
  else if s.regs.opState = OpState.constantVoltage then execAdvanceCv s
  else execAdvanceInvalid s

end Sys2Proof.Machine
end

