-- ==== Sys2Proof/Machine/Inbound.lean ====
section
/-! DEFINITION. The inbound codec (43_codec_inbound.md): DEC_CONTROL and its five classes. Each class works on the
poll's answer, which is gone after it (R36: a frame is not kept). -/

namespace Sys2Proof.Machine

/-- RX_NONE (R162): no register written, no report. -/
def execRxNone (s : State) : Result := .next (s.setRxAnswer none)

/-- RX_OTHER (R163): the frame is ignored. -/
def execRxOther (s : State) : Result := .next (s.setRxAnswer none)

/-- CTRL_BADLEN (R164): report InvalidLength with the frame, write nothing. -/
def execCtrlBadlen (s : State) : Result :=
  match s.rxAnswer with
  | some f => .next ((s.report (.invalidLength f)).setRxAnswer none)
  | none => .refused .rxOperandMissing

/-- CTRL_BADEN (R165): report InvalidEnableValue with the frame, write nothing. -/
def execCtrlBaden (s : State) : Result :=
  match s.rxAnswer with
  | some f => .next ((s.report (.invalidEnableValue f)).setRxAnswer none)
  | none => .refused .rxOperandMissing

/-- CTRL_OK (R166): the setpoints and `enable` from `data[0..4]`, in one update. Without those bytes (R11), or with an
enable byte that stands for no flag (R78), there is no update to apply. -/
def execCtrlOk (s : State) : Result :=
  match s.rxAnswer with
  | some ⟨_, d0 :: d1 :: d2 :: d3 :: d4 :: _⟩ =>
    match enableOfByte d4 with
    | some e => .next ((s.applyControl (be16 d0 d1) (be16 d2 d3) e).setRxAnswer none)
    | none => .refused .rxOperandMissing
  | _ => .refused .rxOperandMissing

/-- DEC_CONTROL (R161): the ordered tests, identifier, then length, then enable byte. -/
def decControl (s : State) : Result :=
  match s.rxAnswer with
  | none => execRxNone s
  | some f =>
    if f.id ≠ s.cfg.controlId then execRxOther s
    else if f.len < Config.ctrlMinLen then execCtrlBadlen s
    else if hasValidEnable f then execCtrlOk s
    else execCtrlBaden s

/-- The poll and the decode of its answer (R160, R161). -/
def receive (s : State) : Result :=
  match poll s with
  | .ok t => decControl t
  | .error r => .refused r

end Sys2Proof.Machine
end

