-- ==== Sys2Proof/Machine/Outbound.lean ====
section
/-! DEFINITION. The outbound codec (42_codec_outbound.md). -/

namespace Sys2Proof.Machine

/-- ENC_HEARTBEAT (R140): one heartbeat frame with the code of `net_state`. A `net_state` of 0b11 has no code and is
refused (R207). -/
def execEncHeartbeat (s : State) : Result :=
  match hbCode s.cfg s.regs.netState with
  | some c => .next (s.tx (heartbeatFrame s.cfg c))
  | none => .refused .netStateUnused

/-- ENC_STATUS (R142): a status frame with the feedback registers, in Operate only. -/
def execEncStatus (s : State) : Result :=
  if s.regs.netState = NetState.operate then
    match readFeedbackVoltage .r142 s.regs, readFeedbackCurrent .r142 s.regs with
    | .ok v, .ok i => .next (s.tx (statusFrame s.cfg v i))
    | .error f, _ => .fault f
    | _, .error f => .fault f
  else .next s

end Sys2Proof.Machine
end

