-- ==== Sys2Proof/Machine/Regulate.lean ====
section
/-! DEFINITION. The regulation comparator (41_regulation.md): REGULATE, the voltage loop and the current loop. -/

namespace Sys2Proof.Machine

/-- VLOOP.IDLE (R121). -/
def execVloopIdle (s : State) : Result := .next (s.issue .stopAll)

/-- VLOOP.CC (R122): no command, no write. -/
def execVloopCc (s : State) : Result := .next s

/-- VLOOP.CV (R123, 90_conflicts.md C1, C2): on inequality, in either direction, command the setpoint. -/
def execVloopCv (s : State) : Result :=
  match readFeedbackVoltage .r123 s.regs with
  | .error f => .fault f
  | .ok v =>
    .next
      (if differs v s.regs.setpointVoltage then s.issue (.setVoltage s.regs.setpointVoltage) else s)

/-- ILOOP.IDLE (R124). -/
def execIloopIdle (s : State) : Result := .next (s.issue .stopAll)

/-- ILOOP.CC (R125): on inequality, in either direction, command the setpoint. -/
def execIloopCc (s : State) : Result :=
  match readFeedbackCurrent .r125 s.regs with
  | .error f => .fault f
  | .ok i =>
    .next
      (if differs i s.regs.setpointCurrent then s.issue (.setCurrent s.regs.setpointCurrent) else s)

/-- ILOOP.CV (R126): no command, no write. -/
def execIloopCv (s : State) : Result := .next s

/-- REGULATE.INVALID (R128): report, issue nothing. -/
def execRegulateInvalid (s : State) : Result := .next (s.report (.invalidStateRegulate s.regs.opState))

/-- VLOOP(p) for a valid post state (R120). -/
def vloop (p : BitVec 2) (s : State) : Result :=
  if p = OpState.idle then execVloopIdle s
  else if p = OpState.constantCurrent then execVloopCc s
  else execVloopCv s

/-- ILOOP(p) for a valid post state (R120). -/
def iloop (p : BitVec 2) (s : State) : Result :=
  if p = OpState.idle then execIloopIdle s
  else if p = OpState.constantCurrent then execIloopCc s
  else execIloopCv s

/-- REGULATE (R120): the voltage loop first, then the current loop, on the post-transition state. -/
def regulate (s : State) : Result :=
  if s.regs.opState = OpState.invalid then execRegulateInvalid s
  else andThen (vloop s.regs.opState s) (iloop s.regs.opState)

end Sys2Proof.Machine
end

