-- ==== Sys2Proof/Machine/HostOps.lean ====
section
/-! DEFINITION. The cycle and the host operations (44_cycle_and_host.md, 70_reset_and_hazards.md R230), and the
pseudo-operations of scripts (30_encoding.md R83). -/

namespace Sys2Proof.Machine

/-- CYCLE (R180): state machine, regulation, heartbeat, status, poll and decode, each once, in this order. -/
def cycle (s : State) : Result :=
  andThen (advance s) fun s =>
  andThen (regulate s) fun s =>
  andThen (execEncHeartbeat s) fun s =>
  andThen (execEncStatus s) fun s =>
  andThen (receive s) fun s =>
  .next s.endCycle

/-- TICK (R180): one whole cycle. There is no block for an illegal configuration (R186), and the block's rules hold only
after RESET (R187 (1)). -/
def execTick (s : State) : Result :=
  betweenCycles s
    (if s.stage = .configured then .fault .tickBeforeReset
     else
      match configProblem s.cfg with
      | some p => .refused (.configIllegal p)
      | none => cycle s.beginCycle)

/-- SENSE v, i (R182). -/
def execSense (v i : Word) (s : State) : Result := betweenCycles s (.next (s.setFeedback v i))

/-- RXQ id, [bytes] (R183); a frame that is no frame of this block is refused (R207). -/
def execRxq (id : Nat) (data : List Byte) (s : State) : Result :=
  betweenCycles s
    (match frameProblem s.cfg ⟨id, data⟩ with
     | some r => .refused r
     | none => .next (s.enqueue ⟨id, data⟩))

/-- CONFIG (R186): before RESET only (R189); an illegal configuration is refused (R207). -/
def execConfig (a : ConfigArgs) (s : State) : Result :=
  betweenCycles s
    (if s.stage = .running then .refused .configAfterReset
     else
      match configProblem (configured s.args a) with
      | some p => .refused (.configIllegal p)
      | none => .next (s.setConfig (configured s.args a)))

/-- RESET (R230). -/
def execReset (s : State) : Result := betweenCycles s (.next s.applyReset)

/-- CTRL v, i, e (R83): RXQ CONTROL_ID, [hi8(v), lo8(v), hi8(i), lo8(i), e]. -/
def execCtrl (v i : Word) (e : Byte) (s : State) : Result := execRxq s.cfg.controlId (controlBytes v i e) s

/-- STEP v, i (R83): SENSE v, i, then TICK. -/
def execStep (v i : Word) (s : State) : Result := andThen (execSense v i s) execTick

/-- BOOT n (R83): CONFIG MIN_CURRENT=n, then RESET. -/
def execBoot (n : Word) (s : State) : Result := andThen (execConfig { minCurrent := some n } s) execReset

end Sys2Proof.Machine
end

