-- ==== Sys2Proof/Machine/Dispatch.lean ====
section
/-! DEFINITION. One arm per constructor of Instr: each a direct call of its meaning. -/

namespace Sys2Proof.Machine

def exec (i : Instr) (s : State) : Host.Outcome State Fault Refusal :=
  match i with
  | .advanceIdle => Sys2Proof.Machine.execAdvanceIdle s
  | .advanceCc => Sys2Proof.Machine.execAdvanceCc s
  | .advanceCv => Sys2Proof.Machine.execAdvanceCv s
  | .advanceInvalid => Sys2Proof.Machine.execAdvanceInvalid s
  | .vloopIdle => Sys2Proof.Machine.execVloopIdle s
  | .vloopCc => Sys2Proof.Machine.execVloopCc s
  | .vloopCv => Sys2Proof.Machine.execVloopCv s
  | .regulateInvalid => Sys2Proof.Machine.execRegulateInvalid s
  | .iloopIdle => Sys2Proof.Machine.execIloopIdle s
  | .iloopCc => Sys2Proof.Machine.execIloopCc s
  | .iloopCv => Sys2Proof.Machine.execIloopCv s
  | .encHeartbeat => Sys2Proof.Machine.execEncHeartbeat s
  | .encStatus => Sys2Proof.Machine.execEncStatus s
  | .rxNone => Sys2Proof.Machine.execRxNone s
  | .rxOther => Sys2Proof.Machine.execRxOther s
  | .ctrlBadlen => Sys2Proof.Machine.execCtrlBadlen s
  | .ctrlBaden => Sys2Proof.Machine.execCtrlBaden s
  | .ctrlOk => Sys2Proof.Machine.execCtrlOk s
  | .tick => Sys2Proof.Machine.execTick s
  | .sense v c => Sys2Proof.Machine.execSense v c s
  | .rxq id data => Sys2Proof.Machine.execRxq id data s
  | .config a => Sys2Proof.Machine.execConfig a s
  | .reset => Sys2Proof.Machine.execReset s
  | .ctrl v c e => Sys2Proof.Machine.execCtrl v c e s
  | .step v c => Sys2Proof.Machine.execStep v c s
  | .boot n => Sys2Proof.Machine.execBoot n s

end Sys2Proof.Machine
end

