-- ==== Sys2Proof/Machine/Fetch.lean ====
section
/-! DEFINITION. What step does next: at a cycle boundary the host's next script line (R82), inside a cycle the operation
whose key the state selects (R79). Also how a bare table word is placed where step takes its next operation. -/

namespace Sys2Proof.Machine

/-- What stands next. -/
inductive Fetched where
  /-- Between cycles with no script line left: the block does nothing (R215). -/
  | quiet
  /-- No operation here (a blank line, a closed status gate): go on from that state. -/
  | skip (s : State)
  /-- This operation, run from that state. -/
  | op (i : Instr) (s : State)
  /-- Nothing the model accepts. -/
  | stop (r : Refusal)

/-- The operation a key selects, run from that state. -/
def fetchKey (c : Code) (s : State) : Fetched :=
  match decode c with
  | .ok i => .op i s
  | .error e => .stop (.badKey e)

/-- The operation of the host's next script line. -/
def fetchLine (s : State) : Fetched :=
  match s.script with
  | [] => .quiet
  | l :: ls =>
    match decodeLine l with
    | .ok i => .op i (s.setScript ls)
    | .error .blankLine => .skip (s.setScript ls)
    | .error e => .stop (.badLine e)

/-- What step does next. Inside a cycle the keys are those of R79: `sel` with the state held at that moment, `txkey`, and
`rxkey` of the poll's answer. -/
def fetch (s : State) : Fetched :=
  match s.slot with
  | .between => fetchLine s
  | .advance => fetchKey (.sel (selKey 0b00 s.regs.opState)) s
  | .vloop => fetchKey (.sel (selKey 0b01 s.regs.opState)) s
  | .iloop => fetchKey (.sel (selKey 0b10 s.regs.opState)) s
  | .heartbeat => fetchKey (.tx (txKey s.regs) 0) s
  | .status =>
    match decode (.tx (txKey s.regs) 1) with
    | .ok i => .op i s
    | .error _ => .skip (s.setSlot .poll)
  | .poll =>
    match poll s with
    | .ok t => fetchKey (.rx (rxKey t.cfg t.rxAnswer)) t
    | .error r => .stop r

/-- The sequencer after an operation taken from that slot (R21, R180): the next of the cycle, REGULATE.INVALID skipping
the current loop (R128); after the decode the cycle ends. A host operation leaves it alone. -/
def retire (from_ : Slot) (i : Instr) (s : State) : State :=
  match from_ with
  | .between => s
  | .advance => s.setSlot .vloop
  | .vloop => s.setSlot (if i = .regulateInvalid then .heartbeat else .iloop)
  | .iloop => s.setSlot .heartbeat
  | .heartbeat => s.setSlot .status
  | .status => s.setSlot .poll
  | .poll => s.endCycle

/-! ### Placing a table word (log entry 9) -/

/-- The state whose next operation is the one of that `sel` slot and `op_state`. -/
def placeSel (s : State) (x : Slot) (st : BitVec 2) : State := (s.setOpState st).setSlot x

/-- The state about to poll, with that frame first in the queue. -/
def placeFrame (s : State) (f : Frame) : State := { s.setSlot .poll with rxQueue := f :: s.rxQueue }

/-- The same state under the identifiers, width and codes of the example configuration: step tests that the configuration
is legal (R207) and the inbound key compares identifiers, and those of the model's arguments have no value. -/
def withExampleIds (s : State) : State := { s with cfg := { Config.example11 with minCurrent := s.cfg.minCurrent } }

/-- The state between cycles whose next script line is `l`. -/
def placeLine (s : State) (l : List Byte) : State := { s.setSlot .between with script := l :: s.script }

/-- `s` with that operation where step takes its next one; a host operation is the script line `l`. -/
def placeInstr (s : State) (i : Instr) (l : List Byte) : State :=
  match i with
  | .advanceIdle => placeSel s .advance OpState.idle
  | .advanceCc => placeSel s .advance OpState.constantCurrent
  | .advanceCv => placeSel s .advance OpState.constantVoltage
  | .advanceInvalid => placeSel s .advance OpState.invalid
  | .vloopIdle => placeSel s .vloop OpState.idle
  | .vloopCc => placeSel s .vloop OpState.constantCurrent
  | .vloopCv => placeSel s .vloop OpState.constantVoltage
  | .regulateInvalid => placeSel s .vloop OpState.invalid
  | .iloopIdle => placeSel s .iloop OpState.idle
  | .iloopCc => placeSel s .iloop OpState.constantCurrent
  | .iloopCv => placeSel s .iloop OpState.constantVoltage
  | .encHeartbeat => s.setSlot .heartbeat
  | .encStatus => (s.setNetState NetState.operate).setSlot .status
  | .rxNone => { s.setSlot .poll with rxQueue := [] }
  | .rxOther => placeFrame s ⟨Config.example11.statusId, []⟩
  | .ctrlBadlen => placeFrame s ⟨Config.example11.controlId, []⟩
  | .ctrlBaden => placeFrame s ⟨Config.example11.controlId, [0, 0, 0, 0, 2]⟩
  | .ctrlOk => placeFrame s ⟨Config.example11.controlId, [0, 0, 0, 0, 0]⟩
  | .tick => placeLine s l
  | .sense _ _ => placeLine s l
  | .rxq _ _ => placeLine s l
  | .config _ => placeLine s l
  | .reset => placeLine s l
  | .ctrl _ _ _ => placeLine s l
  | .step _ _ => placeLine s l
  | .boot _ => placeLine s l

/-- A table word, placed under the example identifiers (see `decodeTableWord`); one that is no operation stands as a script line, which step refuses. -/
def placeTableWord (s : State) (nbits w : Nat) : State :=
  match decodeTableWord nbits w with
  | some i => placeInstr (withExampleIds s) i (bytesOfNat ((nbits + 7) / 8) w)
  | none => placeLine (withExampleIds s) (bytesOfNat ((nbits + 7) / 8) w)

end Sys2Proof.Machine
end

