-- ==== Sys2Proof/Machine/Step.lean ====
section
/-! DEFINITION. One step: refuse an illegal launch state (R207), take what stands next, run it, move the sequencer on.
Between cycles that is one whole host operation, so a TICK is one step (R6, R180). -/

namespace Sys2Proof.Machine

def step (s : State) : Host.Outcome State Fault Refusal :=
  match launchProblem s with
  | some r => .refused r
  | none =>
    match fetch s with
    | .quiet => .next s
    | .skip t => .next t
    | .op i t => andThen (exec i t) fun u => .next (retire s.slot i u)
    | .stop r => .refused r

/-- `s` with the operation of that table word where step takes its next one (log entry 9). -/
def State.withFetchWord (s : State) (nbits w : Nat) : State := placeTableWord s nbits w

end Sys2Proof.Machine
end

