-- ==== Sys2Proof/Safety.lean ====
section
/-! DEFINITION. The terms claims are stated in: the invariant of a run, when a TICK can run, and the effect of one whole
cycle written as tables over the registers at cycle entry (R105, R110, R131, R147, R180), beside the operation-by-operation
text of the machine. -/

namespace Sys2Proof.Machine

/-! ### Invariants -/

/-- What every state of a run between cycles satisfies: no unused encoding (R80), legal parameters (R186), a register
`min_current` that holds MIN_CURRENT once RESET has loaded it (R27), no frame kept (R36), only frames that fit queued. -/
structure State.Inv (s : State) : Prop where
  between : s.slot = .between
  net_used : s.regs.netState ≠ NetState.unused
  action_used : s.regs.lastAction ≠ ActionKind.unused
  cfg_legal : configProblem s.cfg = none
  args_legal : configProblem s.args = none
  min_current : s.stage ≠ .configured → s.regs.minCurrent = s.cfg.minCurrent
  answer_gone : s.rxAnswer = none
  queue_fits : ∀ f ∈ s.rxQueue, f.len ≤ 8

/-- What a TICK needs of the state besides feedback and the poll's answer: the host's duties of R187 (1), a legal
configuration (R186) and a `net_state` that is one (R207). -/
structure State.Ready (s : State) : Prop where
  between : s.slot = .between
  booted : s.stage ≠ .configured
  cfg_legal : configProblem s.cfg = none
  net_used : s.regs.netState ≠ NetState.unused

/-- The answer the next `rx()` will return (R183). -/
def State.answer (s : State) : Option Frame := s.rxQueue.head?

/-- That answer is one the transport may hand over (R207). -/
def State.AnswerFits (s : State) : Prop := ∀ f, s.answer = some f → frameProblem s.cfg f = none

/-! ### One cycle, as tables over the registers at entry -/

/-- The operating state after a cycle (R101 to R104, R110). -/
def nextOp (r : Regs) : BitVec 2 :=
  if r.opState = OpState.idle then (if r.enable then OpState.constantCurrent else OpState.idle)
  else if r.opState = OpState.constantCurrent then
    (if r.setpointVoltage.toNat ≤ r.feedbackVoltage.toNat then OpState.constantVoltage else OpState.constantCurrent)
  else if r.opState = OpState.constantVoltage then
    (if r.feedbackCurrent.toNat ≤ r.minCurrent.toNat then OpState.idle else OpState.constantVoltage)
  else r.opState

/-- The network state after a cycle (R104, R105). -/
def entryNet (r : Regs) : BitVec 2 :=
  if r.opState = OpState.idle then NetState.preOperate
  else if r.opState = OpState.invalid then r.netState
  else NetState.operate

/-- `enable` after the state machine (R103): cleared by the end of a charge. -/
def enableAfterAdvance (r : Regs) : Bool :=
  r.enable && !(decide (r.opState = OpState.constantVoltage) && decide (nextOp r = OpState.idle))

/-- The commands of a cycle, in order (R131). -/
def commands (r : Regs) : List Command :=
  if nextOp r = OpState.idle then [.stopAll, .stopAll]
  else if nextOp r = OpState.constantCurrent then
    (if r.feedbackCurrent = r.setpointCurrent then [] else [.setCurrent r.setpointCurrent])
  else if nextOp r = OpState.constantVoltage then
    (if r.feedbackVoltage = r.setpointVoltage then [] else [.setVoltage r.setpointVoltage])
  else []

/-- `last_action` after a cycle (R127): the kind of the last command, or as it was. -/
def lastActionAfter (r : Regs) : BitVec 2 := ((commands r).getLast?.map Command.kind).getD r.lastAction

/-- The reports of the state machine and of regulation (R104, R128, R204). -/
def stateReports (r : Regs) : List Report :=
  if r.opState = OpState.invalid then [.invalidStateAdvance r.opState, .invalidStateRegulate r.opState] else []

/-- The frames a cycle sends (R141, R143, R147), given the heartbeat code of its network state. -/
def framesSent (p : Params) (r : Regs) : List Frame :=
  ((hbCode p (entryNet r)).map (heartbeatFrame p)).toList ++
    (if entryNet r = NetState.operate then [statusFrame p r.feedbackVoltage r.feedbackCurrent] else [])

/-- The report of the decode of that answer (R162 to R166). -/
def decodeReports (p : Params) (a : Option Frame) : List Report :=
  match a with
  | none => []
  | some f =>
    if f.id ≠ p.controlId then []
    else if f.data.length < 5 then [.invalidLength f]
    else if f.data[4]? = some 0 ∨ f.data[4]? = some 1 then []
    else [.invalidEnableValue f]

/-- The control update in that answer, if it holds one (R166): setpoint voltage, setpoint current, enable. -/
def controlUpdate (p : Params) (a : Option Frame) : Option (Word × Word × Bool) :=
  match a with
  | some ⟨id, d0 :: d1 :: d2 :: d3 :: d4 :: _⟩ =>
    if id = p.controlId ∧ (d4 = 0 ∨ d4 = 1) then some (be16 d0 d1, be16 d2 d3, decide (d4 = 1)) else none
  | _ => none

/-- The whole trace of a cycle, in order (R180). -/
def cycleTrace (p : Params) (r : Regs) (a : Option Frame) : List Event :=
  (stateReports r).map .report ++ (commands r).map .act ++ (framesSent p r).map .tx ++ [.rxPoll a] ++
    (decodeReports p a).map .report

/-- Every register after a cycle. -/
def regsAfter (p : Params) (r : Regs) (a : Option Frame) : Regs :=
  { r with
    opState := nextOp r
    netState := entryNet r
    lastAction := lastActionAfter r
    setpointVoltage := ((controlUpdate p a).map fun u => u.1).getD r.setpointVoltage
    setpointCurrent := ((controlUpdate p a).map fun u => u.2.1).getD r.setpointCurrent
    enable := ((controlUpdate p a).map fun u => u.2.2).getD (enableAfterAdvance r) }

/-- The machine after a cycle (R180, R190). -/
def afterCycle (s : State) : State :=
  { s with
    regs := regsAfter s.cfg s.regs s.answer
    stage := .running
    rxQueue := s.rxQueue.tail
    rxAnswer := none
    trace := cycleTrace s.cfg s.regs s.answer
    history := s.history ++ [⟨cycleTrace s.cfg s.regs s.answer, regsAfter s.cfg s.regs s.answer⟩] }

/-- The first read of an unwritten feedback register in a cycle, if there is one (R206, R236). -/
def firstUnwritten (r : Regs) : Option Fault :=
  if r.opState = OpState.idle then
    (if r.enable ∧ r.feedbackCurrentWritten = false then some (.feedbackUnwritten .current .r125) else none)
  else if r.opState = OpState.constantCurrent then
    (if r.feedbackVoltageWritten = false then some (.feedbackUnwritten .voltage .r102)
     else if r.feedbackCurrentWritten = false then
      some (.feedbackUnwritten .current (if nextOp r = OpState.constantCurrent then .r125 else .r142))
     else none)
  else if r.opState = OpState.constantVoltage then
    (if r.feedbackCurrentWritten = false then some (.feedbackUnwritten .current .r103)
     else if r.feedbackVoltageWritten = false then
      some (.feedbackUnwritten .voltage (if nextOp r = OpState.constantVoltage then .r123 else .r142))
     else none)
  else if r.netState = NetState.operate then
    (if r.feedbackVoltageWritten = false then some (.feedbackUnwritten .voltage .r142)
     else if r.feedbackCurrentWritten = false then some (.feedbackUnwritten .current .r142)
     else none)
  else none

/-! ### Reading a trace -/

def Event.isAct : Event → Bool
  | .act _ => true
  | .tx _ => false
  | .rxPoll _ => false
  | .report _ => false

def Event.isTx : Event → Bool
  | .tx _ => true
  | .act _ => false
  | .rxPoll _ => false
  | .report _ => false

def Event.isPoll : Event → Bool
  | .rxPoll _ => true
  | .act _ => false
  | .tx _ => false
  | .report _ => false

def Event.isReport : Event → Bool
  | .report _ => true
  | .act _ => false
  | .tx _ => false
  | .rxPoll _ => false

/-- How many events of a kind a trace holds. -/
def countEvents (kind : Event → Bool) (t : List Event) : Nat := (t.filter kind).length

/-! ### Asking an outcome a question -/

/-- The outcome is a next state of which the question is answered yes. -/
def nextIs (o : Result) (q : State → Bool) : Bool :=
  match o with
  | .next s => q s
  | .fault _ => false
  | .refused _ => false

/-- The outcome is that fault. -/
def faultIs (o : Result) (f : Fault) : Bool :=
  match o with
  | .next _ => false
  | .fault g => decide (g = f)
  | .refused _ => false

/-- The outcome is that refusal. -/
def refusalIs (o : Result) (r : Refusal) : Bool :=
  match o with
  | .next _ => false
  | .fault _ => false
  | .refused q => decide (q = r)

end Sys2Proof.Machine
end

