-- ==== Sys2Proof/Certificates/Slice0/Obligations.lean ====
section
/-! DEFINITION. The statements for the provers. Each docstring names the rule of spec/ it formalises. -/

open Sys2Proof Sys2Proof.Machine

/-! ### Encoding -/

/-- R79, R82, R83: decoding the code of a well-formed operation gives it back, with every operand. The text conventions of
script lines that R82 leaves open are the model's choice, log entry 7. -/
def Obligations.DecodeEncodeRoundTrip : Prop :=
  ∀ i : Instr, i.wellFormed = true → decode (encode i) = .ok i

/-- R79, R82, R83: some keys and script lines, written out from the spec's own encodings (the lines are `TICK`,
`SENSE 0, 0`, `RXQ 0x201, [0x00, 0x78]`, `CTRL 120, 50, 2` and `BOOT 10`). -/
def Obligations.SpecWordsDecode : Prop :=
  decode (.sel 0b0010) = .ok .advanceCv ∧ decode (.sel 0b0110) = .ok .vloopCv ∧
  decode (.sel 0b1001) = .ok .iloopCc ∧ decode (.sel 0b1011) = .error (.neverSelected 0b1011) ∧
  decode (.tx 0b1 1) = .ok .encStatus ∧ decode (.rx 0b1101) = .ok .ctrlBadlen ∧
  decode (.rx 0b1111) = .ok .ctrlOk ∧ decode (.line [0x54, 0x49, 0x43, 0x4B]) = .ok .tick ∧
  decode (.line [0x53, 0x45, 0x4E, 0x53, 0x45, 0x20, 0x30, 0x2C, 0x20, 0x30]) = .ok (.sense 0 0) ∧
  decode (.line [0x52, 0x58, 0x51, 0x20, 0x30, 0x78, 0x32, 0x30, 0x31, 0x2C, 0x20, 0x5B, 0x30, 0x78, 0x30, 0x30, 0x2C,
    0x20, 0x30, 0x78, 0x37, 0x38, 0x5D]) = .ok (.rxq 0x201 [0x00, 0x78]) ∧
  decode (.line [0x43, 0x54, 0x52, 0x4C, 0x20, 0x31, 0x32, 0x30, 0x2C, 0x20, 0x35, 0x30, 0x2C, 0x20, 0x32]) =
    .ok (.ctrl 120 50 2) ∧
  decode (.line [0x42, 0x4F, 0x4F, 0x54, 0x20, 0x31, 0x30]) = .ok (.boot 10)

/-- R161, R79 (c): the key of a poll's answer selects the class the ordered tests give: no frame, another identifier,
fewer than 5 bytes, an enable byte that is not 0 or 1, otherwise a control update. -/
def Obligations.InboundKeySelectsByOrderedTests : Prop :=
  ∀ (p : Params) (a : Option Frame),
    decode (.rx (rxKey p a)) = .ok
      (match a with
       | none => .rxNone
       | some f =>
         if f.id ≠ p.controlId then .rxOther
         else if f.data.length < 5 then .ctrlBadlen
         else if f.data[4]? = some 0 ∨ f.data[4]? = some 1 then .ctrlOk
         else .ctrlBaden)

/-- R10: the byte-packing primitives, and that packing and unpacking are inverse to each other. -/
def Obligations.BytePackingInverse : Prop :=
  (∀ v : Word, hi8 v = v.extractLsb' 8 8 ∧ lo8 v = v.extractLsb' 0 8) ∧
  (∀ b0 b1 : Byte, be16 b0 b1 = (b0.setWidth 16 <<< 8) ||| b1.setWidth 16) ∧
  (∀ v : Word, be16 (hi8 v) (lo8 v) = v) ∧
  ∀ b0 b1 : Byte, hi8 (be16 b0 b1) = b0 ∧ lo8 (be16 b0 b1) = b1

/-! ### The charger state machine -/

/-- R101: ADVANCE.IDLE, `sel = 0b0000`, writes PreOperate and goes to ConstantCurrent exactly when `enable` is true; it
reads no feedback and changes nothing else. -/
def Obligations.AdvanceIdleEffect : Prop :=
  decode (.sel 0b0000) = .ok .advanceIdle ∧
  ∀ s : State, exec .advanceIdle s = .next { s with regs := { s.regs with
    netState := NetState.preOperate
    opState := if s.regs.enable = true then OpState.constantCurrent else OpState.idle } }

/-- R102: ADVANCE.CC, `sel = 0b0001`. With `feedback_voltage` written it writes Operate and goes to ConstantVoltage exactly
when `feedback_voltage >= setpoint_voltage` (unsigned, equality counts); nothing else changes. Unwritten, it faults. -/
def Obligations.AdvanceCcEffect : Prop :=
  decode (.sel 0b0001) = .ok .advanceCc ∧
  (∀ s : State, s.regs.feedbackVoltageWritten = true →
    exec .advanceCc s = .next { s with regs := { s.regs with
      netState := NetState.operate
      opState := if s.regs.setpointVoltage.toNat ≤ s.regs.feedbackVoltage.toNat then OpState.constantVoltage
        else OpState.constantCurrent } }) ∧
  ∀ s : State, s.regs.feedbackVoltageWritten = false →
    exec .advanceCc s = .fault (.feedbackUnwritten .voltage .r102)

/-- R103, R58: ADVANCE.CV, `sel = 0b0010`. With `feedback_current` written it writes Operate and, exactly when
`feedback_current <= min_current`, goes to Idle and clears `enable` in the same update; nothing else changes. Unwritten,
it faults. -/
def Obligations.AdvanceCvEffect : Prop :=
  decode (.sel 0b0010) = .ok .advanceCv ∧
  (∀ s : State, s.regs.feedbackCurrentWritten = true →
    exec .advanceCv s = .next { s with regs := { s.regs with
      netState := NetState.operate
      opState := if s.regs.feedbackCurrent.toNat ≤ s.regs.minCurrent.toNat then OpState.idle
        else OpState.constantVoltage
      enable := if s.regs.feedbackCurrent.toNat ≤ s.regs.minCurrent.toNat then false else s.regs.enable } }) ∧
  ∀ s : State, s.regs.feedbackCurrentWritten = false →
    exec .advanceCv s = .fault (.feedbackUnwritten .current .r103)

/-- R104, R201: ADVANCE.INVALID reports code 3 with the raw state and holds every register. -/
def Obligations.AdvanceInvalidEffect : Prop :=
  (∀ s : State, exec .advanceInvalid s =
    .next { s with trace := s.trace ++ [.report (.invalidStateAdvance s.regs.opState)] }) ∧
  ∀ raw, (Report.invalidStateAdvance raw).code = 3

/-! ### Regulation -/

/-- R121, R124: each loop in Idle, `sel = 0b0100` and `sel = 0b1000`, issues StopAll and records it, and both together issue
it twice; nothing else changes. On the actuation port StopAll is (0b00, 0) (R77). -/
def Obligations.IdleLoopsStop : Prop :=
  Command.port .stopAll = (0b00, 0) ∧ decode (.sel 0b0100) = .ok .vloopIdle ∧ decode (.sel 0b1000) = .ok .iloopIdle ∧
  ∀ s : State,
    exec .vloopIdle s =
      .next { s with trace := s.trace ++ [.act .stopAll], regs := { s.regs with lastAction := ActionKind.stopAll } } ∧
    exec .iloopIdle s =
      .next { s with trace := s.trace ++ [.act .stopAll], regs := { s.regs with lastAction := ActionKind.stopAll } } ∧
    andThen (exec .vloopIdle s) (exec .iloopIdle) =
      .next { s with
        trace := s.trace ++ [.act .stopAll, .act .stopAll], regs := { s.regs with lastAction := ActionKind.stopAll } }

/-- R122, R126: the voltage loop in ConstantCurrent, `sel = 0b0101`, and the current loop in ConstantVoltage, `sel = 0b1010`,
issue no command and write nothing, whatever the feedback. -/
def Obligations.SilentLoopsChangeNothing : Prop :=
  decode (.sel 0b0101) = .ok .vloopCc ∧ decode (.sel 0b1010) = .ok .iloopCv ∧
  ∀ s : State, exec .vloopCc s = .next s ∧ exec .iloopCv s = .next s

/-- R123: VLOOP.CV, `sel = 0b0110`. With `feedback_voltage` written it commands the setpoint and records SetVoltage exactly
when the two differ, in either direction; on equality nothing changes. Unwritten, it faults. On the actuation port
SetVoltage(v) is (0b01, v) (R77). -/
def Obligations.VoltageLoopEffect : Prop :=
  (∀ v, Command.port (.setVoltage v) = (0b01, v)) ∧
  decode (.sel 0b0110) = .ok .vloopCv ∧
  (∀ s : State, s.regs.feedbackVoltageWritten = true →
    exec .vloopCv s = .next
      (if s.regs.feedbackVoltage = s.regs.setpointVoltage then s
       else { s with
         trace := s.trace ++ [.act (.setVoltage s.regs.setpointVoltage)]
         regs := { s.regs with lastAction := ActionKind.setVoltage } })) ∧
  ∀ s : State, s.regs.feedbackVoltageWritten = false →
    exec .vloopCv s = .fault (.feedbackUnwritten .voltage .r123)

/-- R125: ILOOP.CC, `sel = 0b1001`. With `feedback_current` written it commands the setpoint and records SetCurrent exactly
when the two differ, in either direction; on equality nothing changes. Unwritten, it faults. On the actuation port
SetCurrent(v) is (0b10, v) (R77). -/
def Obligations.CurrentLoopEffect : Prop :=
  (∀ v, Command.port (.setCurrent v) = (0b10, v)) ∧
  decode (.sel 0b1001) = .ok .iloopCc ∧
  (∀ s : State, s.regs.feedbackCurrentWritten = true →
    exec .iloopCc s = .next
      (if s.regs.feedbackCurrent = s.regs.setpointCurrent then s
       else { s with
         trace := s.trace ++ [.act (.setCurrent s.regs.setpointCurrent)]
         regs := { s.regs with lastAction := ActionKind.setCurrent } })) ∧
  ∀ s : State, s.regs.feedbackCurrentWritten = false →
    exec .iloopCc s = .fault (.feedbackUnwritten .current .r125)

/-- R128, R201: REGULATE.INVALID reports code 4 with the raw state, issues no command and writes no register. -/
def Obligations.RegulateInvalidEffect : Prop :=
  (∀ s : State, exec .regulateInvalid s =
    .next { s with trace := s.trace ++ [.report (.invalidStateRegulate s.regs.opState)] }) ∧
  ∀ raw, (Report.invalidStateRegulate raw).code = 4

/-! ### Outbound codec -/

/-- R140, R71, R75: for each of the three network states ENC_HEARTBEAT sends one frame on HEARTBEAT_ID whose single byte is
that state's code; it writes no register. The codes are by default the states' ordinals. -/
def Obligations.HeartbeatFrameSent : Prop :=
  (Config.modelArgs.hbInit, Config.modelArgs.hbPreOperate, Config.modelArgs.hbOperate) = (0x00, 0x01, 0x02) ∧
  ∀ s : State,
    (s.regs.netState = NetState.init → exec .encHeartbeat s =
      .next { s with trace := s.trace ++ [.tx ⟨s.cfg.heartbeatId, [s.cfg.hbInit]⟩] }) ∧
    (s.regs.netState = NetState.preOperate → exec .encHeartbeat s =
      .next { s with trace := s.trace ++ [.tx ⟨s.cfg.heartbeatId, [s.cfg.hbPreOperate]⟩] }) ∧
    (s.regs.netState = NetState.operate → exec .encHeartbeat s =
      .next { s with trace := s.trace ++ [.tx ⟨s.cfg.heartbeatId, [s.cfg.hbOperate]⟩] })

/-- R142, R72: in Operate with both feedback registers written, ENC_STATUS sends the four big-endian feedback bytes on
STATUS_ID, and with one unwritten it faults; in every other network state it sends nothing. It writes no register. -/
def Obligations.StatusFrameSent : Prop :=
  ∀ s : State,
    (s.regs.netState = NetState.operate → s.regs.feedbackVoltageWritten = true →
      s.regs.feedbackCurrentWritten = true →
      exec .encStatus s = .next { s with trace := s.trace ++ [.tx ⟨s.cfg.statusId,
        [s.regs.feedbackVoltage.extractLsb' 8 8, s.regs.feedbackVoltage.extractLsb' 0 8,
         s.regs.feedbackCurrent.extractLsb' 8 8, s.regs.feedbackCurrent.extractLsb' 0 8]⟩] }) ∧
    (s.regs.netState = NetState.operate → s.regs.feedbackVoltageWritten = false →
      exec .encStatus s = .fault (.feedbackUnwritten .voltage .r142)) ∧
    (s.regs.netState = NetState.operate → s.regs.feedbackVoltageWritten = true →
      s.regs.feedbackCurrentWritten = false → exec .encStatus s = .fault (.feedbackUnwritten .current .r142)) ∧
    (s.regs.netState ≠ NetState.operate → exec .encStatus s = .next s)

/-! ### Inbound codec -/

/-- R162, R163: no frame, or a frame for somebody else, writes no register and raises no report. (What becomes of the
model's latch of the answer, `rxAnswer`, is left open here and in the next two: log entry 15.) -/
def Obligations.IgnoredAnswersWriteNothing : Prop :=
  ∀ s : State, (∃ a, exec .rxNone s = .next { s with rxAnswer := a }) ∧
    ∃ a, exec .rxOther s = .next { s with rxAnswer := a }

/-- R164, R165: a rejected control frame is reported with its code and the frame, and writes no register. -/
def Obligations.RejectedFramesReportOnly : Prop :=
  ∀ (s : State) (f : Frame), s.rxAnswer = some f →
    (∃ a, exec .ctrlBadlen s =
      .next { s with trace := s.trace ++ [.report (.invalidLength f)], rxAnswer := a }) ∧
    (∃ a, exec .ctrlBaden s =
      .next { s with trace := s.trace ++ [.report (.invalidEnableValue f)], rxAnswer := a }) ∧
    (Report.invalidLength f).code = 2 ∧ (Report.invalidEnableValue f).code = 1

/-- R166, R168: for a frame with bytes d0 to d4, d4 being 0x00 or 0x01, CTRL_OK writes both setpoints big-endian and
`enable` in one update, whatever bytes follow; nothing else changes. -/
def Obligations.ControlUpdateApplied : Prop :=
  ∀ (s : State) (id : Nat) (d0 d1 d2 d3 d4 : Byte) (rest : List Byte),
    s.rxAnswer = some ⟨id, d0 :: d1 :: d2 :: d3 :: d4 :: rest⟩ → (d4 = 0 ∨ d4 = 1) →
    ∃ a, exec .ctrlOk s = .next { s with
      rxAnswer := a
      regs := { s.regs with setpointVoltage := d0 ++ d1, setpointCurrent := d2 ++ d3, enable := decide (d4 = 1) } }

/-- The model's choice, log entry 15: an inbound class run without the frame, the bytes or the enable value it reads is
refused; R161 never selects it so. -/
def Obligations.ClassWithoutItsFrameIsRefused : Prop :=
  (∀ s : State, s.rxAnswer = none →
    exec .ctrlBadlen s = .refused .rxOperandMissing ∧ exec .ctrlBaden s = .refused .rxOperandMissing ∧
    exec .ctrlOk s = .refused .rxOperandMissing) ∧
  ∀ (s : State) (f : Frame), s.rxAnswer = some f → ¬(f.data[4]? = some 0 ∨ f.data[4]? = some 1) →
    exec .ctrlOk s = .refused .rxOperandMissing

/-! ### Host operations -/

/-- R182: between cycles SENSE writes both feedback registers and both written bits, and nothing else. -/
def Obligations.SenseWritesFeedback : Prop :=
  ∀ (s : State) (v i : Word), s.slot = .between →
    exec (.sense v i) s = .next { s with regs := { s.regs with
      feedbackVoltage := v, feedbackCurrent := i, feedbackVoltageWritten := true, feedbackCurrentWritten := true } }

/-- R183: between cycles RXQ puts a frame of at most 8 bytes whose identifier fits ID_WIDTH at the end of the host's
queue, and changes nothing else. -/
def Obligations.RxqQueuesFrame : Prop :=
  ∀ (s : State) (id : Nat) (data : List Byte), s.slot = .between → data.length ≤ 8 → id < 2 ^ s.cfg.idWidth →
    exec (.rxq id data) s = .next { s with rxQueue := s.rxQueue ++ [⟨id, data⟩] }

/-- R83: CTRL queues the 5-byte control frame of its operands; the enable byte is not checked. -/
def Obligations.CtrlQueuesControlFrame : Prop :=
  ∀ (s : State) (v i : Word) (e : Byte), s.slot = .between → s.cfg.controlId < 2 ^ s.cfg.idWidth →
    exec (.ctrl v i e) s =
      .next { s with rxQueue := s.rxQueue ++ [⟨s.cfg.controlId, [hi8 v, lo8 v, hi8 i, lo8 i, e]⟩] }

/-- R186, R82: before RESET, CONFIG with legal parameters fixes them (a parameter left out keeps its model argument) and
changes no register. The stage it leaves is the model's, log entry 1. -/
def Obligations.ConfigFixesParameters : Prop :=
  ∀ (s : State) (a : ConfigArgs), s.slot = .between → s.stage ≠ .running →
    configProblem (configured s.args a) = none →
    exec (.config a) s = .next { s with cfg := configured s.args a, stage := .configured }

/-- R82: what CONFIG fixes, parameter by parameter: the value given, or the model's argument where none is. -/
def Obligations.ConfigParameterByParameter : Prop :=
  ∀ (p : Params) (a : ConfigArgs),
    (configured p a).idWidth = a.idWidth.getD p.idWidth ∧
    (configured p a).heartbeatId = a.heartbeatId.getD p.heartbeatId ∧
    (configured p a).statusId = a.statusId.getD p.statusId ∧
    (configured p a).controlId = a.controlId.getD p.controlId ∧
    (configured p a).minCurrent = a.minCurrent.getD p.minCurrent ∧
    ((configured p a).hbInit, (configured p a).hbPreOperate, (configured p a).hbOperate) =
      a.hbCode.getD (p.hbInit, p.hbPreOperate, p.hbOperate)

/-- R186, R189, R207: CONFIG is refused when an identifier does not fit the width or two identifiers are equal, and when it
comes after RESET; BOOT, which begins with a CONFIG (R83), is refused after RESET and under illegal arguments of the model.
That each is refused by name is the model's choice, log entry 13, and so is the stage that says what has run (a first TICK
ends the time for CONFIG too), log entry 1. -/
def Obligations.IllegalConfigRefused : Prop :=
  (∀ (s : State) (a : ConfigArgs) (p : Params), s.slot = .between → s.stage ≠ .running → p = configured s.args a →
    (¬(p.heartbeatId < 2 ^ p.idWidth ∧ p.statusId < 2 ^ p.idWidth ∧ p.controlId < 2 ^ p.idWidth) ∨
      p.heartbeatId = p.statusId ∨ p.heartbeatId = p.controlId ∨ p.statusId = p.controlId) →
    ∃ q, exec (.config a) s = .refused (.configIllegal q)) ∧
  (∀ (s : State) (a : ConfigArgs), s.slot = .between → s.stage = .running →
    exec (.config a) s = .refused .configAfterReset) ∧
  (∀ (s : State) (n : Word), s.slot = .between → s.stage = .running →
    exec (.boot n) s = .refused .configAfterReset) ∧
  ∀ (s : State) (n : Word) (q : ConfigProblem), s.slot = .between → s.stage ≠ .running →
    configProblem s.args = some q → exec (.boot n) s = .refused (.configIllegal q)

/-- R230: between cycles RESET sets every register to its reset value and the sequencer to SM, with no event. -/
def Obligations.ResetRestoresRegisters : Prop :=
  ∀ s : State, s.slot = .between → ∃ t, exec .reset s = .next t ∧
    t.regs.opState = 0b00 ∧ t.regs.netState = 0b00 ∧ t.regs.setpointVoltage = 0 ∧ t.regs.setpointCurrent = 0 ∧
    t.regs.enable = false ∧ t.regs.minCurrent = s.cfg.minCurrent ∧ t.regs.feedbackVoltageWritten = false ∧
    t.regs.feedbackCurrentWritten = false ∧ t.regs.lastAction = 0b00 ∧ t.phase = .sm ∧ t.trace = s.trace

/-- R233: RESET does not change the parameters. What it leaves of the host (queue, script, observation), that no answer of
a poll is left, and that the stage is `running` after it are the model's choice, log entries 11, 15 and 1. -/
def Obligations.ResetKeepsHostSide : Prop :=
  ∀ s t : State, exec .reset s = .next t → t.cfg = s.cfg ∧ t.args = s.args ∧ t.history = s.history ∧
    t.rxQueue = s.rxQueue ∧ t.script = s.script ∧ t.rxAnswer = none ∧ t.stage = .running

/-- R230, R30 to R35: the same values in the machine's state after reset. -/
def Obligations.ResetStateValues : Prop :=
  State.reset.regs.opState = 0b00 ∧ State.reset.regs.netState = 0b00 ∧ State.reset.regs.setpointVoltage = 0 ∧
  State.reset.regs.setpointCurrent = 0 ∧ State.reset.regs.enable = false ∧
  State.reset.regs.minCurrent = Config.openParams.minCurrent ∧ State.reset.regs.feedbackVoltageWritten = false ∧
  State.reset.regs.feedbackCurrentWritten = false ∧ State.reset.regs.lastAction = 0b00 ∧ State.reset.phase = .sm

/-- R83: before RESET, BOOT n with a legal result fixes `MIN_CURRENT = n`, leaves the other parameters at the model's
arguments, and resets: `min_current` is n. That the host's queue, script and observation stay, that no poll answer is
left, that it is one step, and the stage it leaves are the model's choice, log entries 11, 15, 4 and 1. The two feedback
registers hold no value then (R34): what stands in their fields, log entry 3, is left open. -/
def Obligations.BootConfiguresAndResets : Prop :=
  ∀ (s : State) (n : Word), s.slot = .between → s.stage ≠ .running → configProblem s.args = none →
    ∃ v c, exec (.boot n) s = .next { s with
      cfg := { s.args with minCurrent := n }
      regs := { Regs.reset s.args with minCurrent := n, feedbackVoltage := v, feedbackCurrent := c }
      rxAnswer := none
      stage := .running }

/-- R83: STEP v, i is SENSE v, i and then TICK. In a ready state whose next answer fits it always completes, since both
feedback registers are written: it is the whole cycle on the new sample. That it is one step, the stage it leaves and that
no poll answer is left are the model's choice, log entries 4, 1 and 15. -/
def Obligations.StepSensesAndTicks : Prop :=
  ∀ (s : State) (v i : Word), s.Ready → s.AnswerFits →
    exec (.step v i) s = .next (afterCycle { s with regs := { s.regs with
      feedbackVoltage := v, feedbackCurrent := i, feedbackVoltageWritten := true, feedbackCurrentWritten := true } })

/-- R181, R187 (2), R244: no host operation takes effect inside a cycle. That each is refused there by name is the model's
choice, log entry 18. -/
def Obligations.HostOperationsRefusedInCycle : Prop :=
  ∀ (i : Instr) (s : State), i.isHostOp = true → s.slot ≠ .between → exec i s = .refused .hostOperationInCycle

/-! ### The whole cycle -/

/-- R180: in a ready state whose feedback is there where the cycle reads it and whose next answer fits, TICK completes, and
its next state is the one the tables of the rules give: operating and network state (R101 to R105), commands and
`last_action` (R131, R127), frames (R147), the poll and the decode (R162 to R166), in this order, and one more record in
the observation (R190). The stage it leaves and that no poll answer is left are the model's choice, log entries 1 and 15. -/
def Obligations.TickEffect : Prop :=
  ∀ s : State, s.Ready → firstUnwritten s.regs = none → s.AnswerFits → exec .tick s = .next (afterCycle s)

/-- R206, R236: if the cycle reaches a read of an unwritten feedback register, TICK faults and names the register and the
rule of that first read. -/
def Obligations.TickFaultsAtFirstUnwrittenRead : Prop :=
  ∀ (s : State) (f : Fault), s.Ready → firstUnwritten s.regs = some f → exec .tick s = .fault f

/-- R206: each of the five operations that read feedback faults on an unwritten register, naming register and rule. -/
def Obligations.UnwrittenReadsFault : Prop :=
  ∀ s : State,
    (s.regs.feedbackVoltageWritten = false →
      exec .advanceCc s = .fault (.feedbackUnwritten .voltage .r102) ∧
      exec .vloopCv s = .fault (.feedbackUnwritten .voltage .r123) ∧
      (s.regs.netState = NetState.operate → exec .encStatus s = .fault (.feedbackUnwritten .voltage .r142))) ∧
    (s.regs.feedbackCurrentWritten = false →
      exec .advanceCv s = .fault (.feedbackUnwritten .current .r103) ∧
      exec .iloopCc s = .fault (.feedbackUnwritten .current .r125) ∧
      (s.regs.netState = NetState.operate → s.regs.feedbackVoltageWritten = true →
        exec .encStatus s = .fault (.feedbackUnwritten .current .r142)))

/-- R180, R21, R79: running the sequencer operation by operation from the start of a cycle, each operation selected by its
key, ends as TICK does, whether in a next state, a fault or a refusal. That a state inside a cycle runs one operation per step is
the model's choice, log entry 6. -/
def Obligations.TickIsItsOperationsInOrder : Prop :=
  ∀ s : State, s.Ready → s.regs.lastAction ≠ ActionKind.unused →
    ∃ k, k ≤ 6 ∧ Sys2Proof.core.run k s.beginCycle = exec .tick s

/-- R234: the first cycle after a reset stays in Idle, sends PreOperate and no status, stops both loops and needs no
feedback, whatever frame the poll returns and whatever stands in the fields of the unwritten feedback registers. -/
def Obligations.FirstCycleAfterReset : Prop :=
  ∀ s : State, s.Ready → s.AnswerFits →
    (∃ v c, s.regs = { Regs.reset s.cfg with feedbackVoltage := v, feedbackCurrent := c }) → ∃ t, exec .tick s = .next t ∧
    t.regs.opState = OpState.idle ∧ t.regs.netState = NetState.preOperate ∧ t.regs.lastAction = ActionKind.stopAll ∧
    ∃ r, t.trace = [.act .stopAll, .act .stopAll, .tx ⟨s.cfg.heartbeatId, [s.cfg.hbPreOperate]⟩,
      .rxPoll s.rxQueue.head?] ++ r ∧ ∀ e ∈ r, e.isReport = true

/-- R110: a transition is one of some cycle exactly when it is one of the six edges of the graph, or the invalid state
staying as it is: the invalid state reaches no other and is reached from no other. That it stays is R104's holding, which
the spec marks as its own choice (D18). -/
def Obligations.TransitionGraph : Prop :=
  ∀ a b : BitVec 2, (∃ s t : State, exec .tick s = .next t ∧ s.regs.opState = a ∧ t.regs.opState = b) ↔
    (a, b) ∈
      [(OpState.idle, OpState.idle), (OpState.idle, OpState.constantCurrent),
       (OpState.constantCurrent, OpState.constantCurrent), (OpState.constantCurrent, OpState.constantVoltage),
       (OpState.constantVoltage, OpState.constantVoltage), (OpState.constantVoltage, OpState.idle),
       (OpState.invalid, OpState.invalid)]

/-- R105: the network state after a cycle is a function of the operating state at its entry. R104: from the invalid state
it is held, which the spec marks there as its own reading of "hold previous state" (D18). -/
def Obligations.NetworkStateFromEntryState : Prop :=
  ∀ s t : State, exec .tick s = .next t →
    (s.regs.opState = OpState.idle → t.regs.netState = NetState.preOperate) ∧
    (s.regs.opState = OpState.constantCurrent → t.regs.netState = NetState.operate) ∧
    (s.regs.opState = OpState.constantVoltage → t.regs.netState = NetState.operate) ∧
    (s.regs.opState = OpState.invalid → t.regs.netState = s.regs.netState)

/-- R141, R143, R146, R147: every cycle transmits exactly the heartbeat, or the heartbeat and then the status frame with
this cycle's feedback; the status frame exactly when the network state is Operate, which is when the cycle's entry state
is ConstantCurrent or ConstantVoltage, or is invalid with Operate held (the holding is R104's, the spec's own reading,
D18); and nothing on CONTROL_ID. -/
def Obligations.FramesOfEveryCycle : Prop :=
  ∀ s t : State, exec .tick s = .next t → ∃ c, hbCode s.cfg t.regs.netState = some c ∧
    t.trace.filter Event.isTx =
      .tx ⟨s.cfg.heartbeatId, [c]⟩ ::
        (if t.regs.netState = NetState.operate then
          [.tx (statusFrame s.cfg s.regs.feedbackVoltage s.regs.feedbackCurrent)] else []) ∧
    (t.regs.netState = NetState.operate ↔
      s.regs.opState = OpState.constantCurrent ∨ s.regs.opState = OpState.constantVoltage ∨
        s.regs.opState = OpState.invalid ∧ s.regs.netState = NetState.operate) ∧
    ∀ f, Event.tx f ∈ t.trace → f.id ≠ s.cfg.controlId

/-- R188: a completed cycle holds at most 2 commands, 1 or 2 transmissions, exactly 1 poll and at most 3 reports. -/
def Obligations.CycleBounds : Prop :=
  ∀ s t : State, exec .tick s = .next t →
    countEvents Event.isAct t.trace ≤ 2 ∧ 1 ≤ countEvents Event.isTx t.trace ∧
    countEvents Event.isTx t.trace ≤ 2 ∧ countEvents Event.isPoll t.trace = 1 ∧
    countEvents Event.isReport t.trace ≤ 3

/-- R127: after a cycle `last_action` is the kind of the cycle's last command, or as it was if the cycle issued none. -/
def Obligations.LastActionIsLastCommand : Prop :=
  ∀ s t : State, exec .tick s = .next t →
    t.regs.lastAction =
      (match (t.trace.filter Event.isAct).getLast? with
       | some (.act c) => c.kind
       | _ => s.regs.lastAction)

/-- R246, R104, R128, R201: with `op_state = 0b11` a cycle reports codes 3 and 4 first, issues no command, and holds the operating
state, the network state and `last_action`. -/
def Obligations.InvalidStateAbsorbing : Prop :=
  ∀ s t : State, s.regs.opState = OpState.invalid → exec .tick s = .next t →
    t.regs.opState = OpState.invalid ∧ t.regs.netState = s.regs.netState ∧
    t.regs.lastAction = s.regs.lastAction ∧ countEvents Event.isAct t.trace = 0 ∧
    ∃ a b r, t.trace = .report a :: .report b :: r ∧ a = .invalidStateAdvance 0b11 ∧ a.code = 3 ∧
      b = .invalidStateRegulate 0b11 ∧ b.code = 4

/-- R57: the decode of a cycle either applies a whole control update (both setpoints and `enable` of one frame on CONTROL_ID)
or writes none of the three: both setpoints are as they were, and `enable` is what the state machine left, cleared only by
the end of a charge (R103). -/
def Obligations.ControlUpdateAllOrNothing : Prop :=
  ∀ s t : State, exec .tick s = .next t →
    (∃ d0 d1 d2 d3 d4 rest, s.rxQueue.head? = some ⟨s.cfg.controlId, d0 :: d1 :: d2 :: d3 :: d4 :: rest⟩ ∧
      (d4 = 0 ∨ d4 = 1) ∧ t.regs.setpointVoltage = be16 d0 d1 ∧ t.regs.setpointCurrent = be16 d2 d3 ∧
      t.regs.enable = decide (d4 = 1)) ∨
    (t.regs.setpointVoltage = s.regs.setpointVoltage ∧ t.regs.setpointCurrent = s.regs.setpointCurrent ∧
      t.regs.enable =
        if s.regs.opState = OpState.constantVoltage ∧ s.regs.feedbackCurrent.toNat ≤ s.regs.minCurrent.toNat then false
        else s.regs.enable)

/-- R241: when a cycle ends the charge and also decodes a control frame, the decoded enable value stands at its end; with
0x01 the next cycle starts a charge again. -/
def Obligations.EnableRace : Prop :=
  ∀ (s t : State) (d0 d1 d2 d3 : Byte) (e : Bool) (rest : List Byte),
    s.regs.opState = OpState.constantVoltage → s.regs.feedbackCurrent.toNat ≤ s.regs.minCurrent.toNat →
    s.rxQueue.head? = some ⟨s.cfg.controlId, d0 :: d1 :: d2 :: d3 :: (if e = true then 1 else 0) :: rest⟩ →
    exec .tick s = .next t → t.regs.opState = OpState.idle ∧ t.regs.enable = e ∧
      ∀ u, e = true → exec .tick t = .next u → u.regs.opState = OpState.constantCurrent

/-- R171: a control frame that carries v, i and e = 0 or 1 is CTRL_OK and gives them back, for all values: in a ready state
with an empty queue, CTRL v, i, e and then STEP leave the setpoints v and i and `enable` as the frame said. -/
def Obligations.ControlFrameRoundTrip : Prop :=
  (∀ (p : Params) (v i : Word) (e : Bool), decode (.rx (rxKey p
    (some ⟨p.controlId, [hi8 v, lo8 v, hi8 i, lo8 i, if e = true then 1 else 0]⟩))) = .ok .ctrlOk) ∧
  ∀ (s : State) (v i fv fi : Word) (e : Bool), s.Ready → s.rxQueue = [] →
    ∃ t u, exec (.ctrl v i (if e = true then 1 else 0)) s = .next t ∧ exec (.step fv fi) t = .next u ∧
      u.regs.setpointVoltage = v ∧ u.regs.setpointCurrent = i ∧ u.regs.enable = e ∧ u.rxQueue = []

/-- R243, R160: a completed cycle takes the oldest queued frame and no other, and its poll shows it. -/
def Obligations.OneFramePerCycle : Prop :=
  ∀ s t : State, exec .tick s = .next t →
    t.rxQueue = s.rxQueue.tail ∧ t.trace.filter Event.isPoll = [.rxPoll s.rxQueue.head?]

/-- R237, R61: what the poll will return has no influence on the state machine, regulation or the frames sent in that
cycle: two machines that differ only in their queues agree on everything up to the poll. -/
def Obligations.AnswerDoesNotReachItsOwnCycle : Prop :=
  ∀ (s t u : State) (q : List Frame), exec .tick s = .next t → exec .tick { s with rxQueue := q } = .next u →
    t.regs.opState = u.regs.opState ∧ t.regs.netState = u.regs.netState ∧ t.regs.lastAction = u.regs.lastAction ∧
    t.trace.takeWhile (fun e => !e.isPoll) = u.trace.takeWhile (fun e => !e.isPoll)

/-- R109, R242: in ConstantCurrent and in ConstantVoltage `enable` is not read: two machines that differ only in it agree on
the states, the command and the whole trace of the cycle. -/
def Obligations.DisableDoesNotStopCharge : Prop :=
  ∀ (s t u : State) (b : Bool),
    s.regs.opState = OpState.constantCurrent ∨ s.regs.opState = OpState.constantVoltage →
    exec .tick s = .next t → exec .tick { s with regs := { s.regs with enable := b } } = .next u →
    t.regs.opState = u.regs.opState ∧ t.regs.netState = u.regs.netState ∧ t.regs.lastAction = u.regs.lastAction ∧
    t.trace = u.trace

/-! ### Who writes what -/

/-- R22, R26, R28, R170: an operation inside a cycle writes `op_state`, `net_state` only as ADVANCE, the setpoints only as
CTRL_OK, `enable` only as ADVANCE.CV or CTRL_OK, `last_action` only as a loop, and never feedback, its written bits or
`min_current`. -/
def Obligations.RegisterWriters : Prop :=
  ∀ (i : Instr) (s t : State), i.isHostOp = false → exec i s = .next t →
    (i ∉ [Instr.advanceIdle, .advanceCc, .advanceCv] →
      t.regs.opState = s.regs.opState ∧ t.regs.netState = s.regs.netState) ∧
    (i ≠ .ctrlOk →
      t.regs.setpointVoltage = s.regs.setpointVoltage ∧ t.regs.setpointCurrent = s.regs.setpointCurrent) ∧
    (i ≠ .ctrlOk → i ≠ .advanceCv → t.regs.enable = s.regs.enable) ∧
    (i ∉ [Instr.vloopIdle, .vloopCv, .iloopIdle, .iloopCc] → t.regs.lastAction = s.regs.lastAction) ∧
    t.regs.minCurrent = s.regs.minCurrent ∧ t.regs.feedbackVoltage = s.regs.feedbackVoltage ∧
    t.regs.feedbackCurrent = s.regs.feedbackCurrent ∧
    t.regs.feedbackVoltageWritten = s.regs.feedbackVoltageWritten ∧
    t.regs.feedbackCurrentWritten = s.regs.feedbackCurrentWritten

/-- R27, R170, R186: `min_current` changes only by RESET (and BOOT, which resets), and the parameters only by CONFIG (and
BOOT); the model's arguments never change. -/
def Obligations.ParametersConstant : Prop :=
  ∀ (i : Instr) (s t : State), exec i s = .next t →
    (i ≠ .reset → (∀ n, i ≠ .boot n) → t.regs.minCurrent = s.regs.minCurrent) ∧
    ((∀ a, i ≠ .config a) → (∀ n, i ≠ .boot n) → t.cfg = s.cfg) ∧ t.args = s.args

/-- R186: once RESET has run, no step changes the parameters, whatever the script says. That RESET has run is read off the
stage, which is the model's own bookkeeping and is `running` after a first TICK without RESET too: log entry 1. -/
def Obligations.ParametersConstantFromReset : Prop :=
  ∀ s t : State, s.stage = .running → step s = .next t → t.cfg = s.cfg ∧ t.stage = .running

/-! ### The step -/

/-- R82, R6, and the model's script (log entries 1, 7, 10): between cycles, in a state that is no refused launch state, step
runs the decoded operation of the next script line on the state past that line, and nothing around it; a blank line is
passed over; a line outside the syntax is refused; with no line left the block does nothing (R215). -/
def Obligations.StepRunsNextScriptLine : Prop :=
  ∀ s : State, s.slot = .between → launchProblem s = none →
    (∀ l ls i, s.script = l :: ls → decodeLine l = .ok i → step s = exec i { s with script := ls }) ∧
    (∀ l ls, s.script = l :: ls → decodeLine l = .error .blankLine → step s = .next { s with script := ls }) ∧
    (∀ l ls e, s.script = l :: ls → decodeLine l = .error e → e ≠ .blankLine → step s = .refused (.badLine e)) ∧
    (s.script = [] → step s = .next s)

/-- R79 (a), (b), R21, and the model's mid-cycle states (log entry 6): inside a cycle step runs the operation the key
selects and moves the sequencer to the next slot, past the current loop after REGULATE.INVALID. -/
def Obligations.StepRunsSelectedKey : Prop :=
  ∀ (s : State) (i : Instr), launchProblem s = none →
    (s.slot = .advance → decode (.sel (0b00#2 ++ s.regs.opState)) = .ok i →
      step s = andThen (exec i s) fun t => .next { t with slot := .vloop }) ∧
    (s.slot = .vloop → decode (.sel (0b01#2 ++ s.regs.opState)) = .ok i →
      step s = andThen (exec i s) fun t =>
        .next { t with slot := if i = .regulateInvalid then .heartbeat else .iloop }) ∧
    (s.slot = .iloop → decode (.sel (0b10#2 ++ s.regs.opState)) = .ok i →
      step s = andThen (exec i s) fun t => .next { t with slot := .heartbeat }) ∧
    (s.slot = .heartbeat → step s = andThen (exec .encHeartbeat s) fun t => .next { t with slot := .status }) ∧
    (s.slot = .status → step s = andThen (exec .encStatus s) fun t => .next { t with slot := .poll })

/-- R160, R161, R79 (c), and the model's mid-cycle states and answer latch (log entries 6 and 15): at the poll, step takes
the oldest frame (or none), shows it in the trace, runs the class its key selects, and ends the cycle. That the poll is a
step of its own is the model's choice, log entry 6, and so is that the answer stands in `rxAnswer` meanwhile, log entry 15. -/
def Obligations.StepPollsAndDecodes : Prop :=
  ∀ (s : State) (i : Instr), s.slot = .poll → launchProblem s = none → s.AnswerFits →
    decode (.rx (rxKey s.cfg s.answer)) = .ok i →
    step s = andThen
      (exec i { s with
        rxAnswer := s.answer, rxQueue := s.rxQueue.tail, trace := s.trace ++ [.rxPoll s.answer] })
      fun t => .next { t with slot := .between, history := t.history ++ [⟨t.trace, t.regs⟩] }

/-- R207: the model has no step at all from a launch state with `net_state` or `last_action` 0b11 or with an illegal
configuration, and none that offers the block a frame over 8 bytes or with an identifier that does not fit; a launch state
with `op_state = 0b11` is not refused for it. That exec of TICK and of RXQ also refuse is the model's choice, log entries
16 and 14. -/
def Obligations.IllegalLaunchAndFramesRefused : Prop :=
  (∀ s : State, s.regs.netState = NetState.unused ∨ s.regs.lastAction = ActionKind.unused ∨ configProblem s.cfg ≠ none →
    ∃ r, step s = .refused r) ∧
  (∀ (s : State) (f : Frame), s.slot = .poll → s.answer = some f → (8 < f.data.length ∨ 2 ^ s.cfg.idWidth ≤ f.id) →
    ∃ r, step s = .refused r) ∧
  (∀ (s t : State) (f : Frame), s.answer = some f → (8 < f.data.length ∨ 2 ^ s.cfg.idWidth ≤ f.id) →
    exec .tick s ≠ .next t) ∧
  (∀ (s : State) (p : ConfigProblem), s.slot = .between → s.stage ≠ .configured → configProblem s.cfg = some p →
    exec .tick s = .refused (.configIllegal p)) ∧
  (∀ s : State, s.Ready → s.regs.opState = OpState.invalid → s.regs.netState ≠ NetState.operate → s.AnswerFits →
    ∃ t, exec .tick s = .next t) ∧
  ∀ (s : State) (id : Nat) (data : List Byte), s.slot = .between → (8 < data.length ∨ 2 ^ s.cfg.idWidth ≤ id) →
    ∃ r, exec (.rxq id data) s = .refused r

/-- R187 (1), the model's choice of a fault for the breach (log entry 12): TICK after CONFIG and before RESET does not run. -/
def Obligations.TickBeforeResetFaults : Prop :=
  ∀ s : State, s.slot = .between → s.stage = .configured → exec .tick s = .fault .tickBeforeReset

/-! ### Invariants -/

/-- The invariant of a run (R27, R36, R80, R186) is kept by every step. Its stage, its latch of the poll's answer and the
length limit on queued frames are the model's, log entries 1, 15 and 14. -/
def Obligations.StepKeepsInv : Prop :=
  ∀ s t : State, s.Inv → step s = .next t → t.Inv

/-- It holds right after reset. -/
def Obligations.ResetMeetsInv : Prop := State.reset.Inv

/-- R23, R110: no step enters the invalid operating state. -/
def Obligations.InvalidStateNeverEntered : Prop :=
  ∀ s t : State, s.regs.opState ≠ OpState.invalid → step s = .next t → t.regs.opState ≠ OpState.invalid

/-- R80, R186: from a state with no unused encoding in them and a legal configuration, no step writes 0b11 to `net_state` or
`last_action` or leaves an illegal configuration; so along a run no launch state is ever refused. -/
def Obligations.UnusedCodesNeverWritten : Prop :=
  ∀ s t : State, launchProblem s = none → step s = .next t → launchProblem t = none
end

