-- ==== Sys2Proof/Laws/Decode.lean ====
section
/-! SUPPORT. Which operations each kind of key can select: a script line only a host operation, a key of the map only an
operation inside a cycle. Also big-endian packing as concatenation. -/

namespace Sys2Proof

/-! ### Script lines -/

theorem noOperands_eq_ok {op i : Instr} {ts : List Token} (h : noOperands op ts = .ok i) : i = op := by
  unfold noOperands at h
  split at h <;> cases h
  rfl

theorem twoWords_eq_ok {op : Word → Word → Instr} {i : Instr} {ts : List Token} (h : twoWords op ts = .ok i) :
    ∃ v c, i = op v c := by
  unfold twoWords at h
  split at h
  · split at h <;> cases h
    exact ⟨_, _, rfl⟩
  · cases h

theorem rxqOperands_eq_ok {i : Instr} {ts : List Token} (h : rxqOperands ts = .ok i) : ∃ id d, i = .rxq id d := by
  unfold rxqOperands at h
  repeat' split at h
  all_goals cases h
  all_goals exact ⟨_, _, rfl⟩

theorem ctrlOperands_eq_ok {i : Instr} {ts : List Token} (h : ctrlOperands ts = .ok i) : ∃ v c e, i = .ctrl v c e := by
  unfold ctrlOperands at h
  repeat' split at h
  all_goals cases h
  all_goals exact ⟨_, _, _, rfl⟩

theorem bootOperand_eq_ok {i : Instr} {ts : List Token} (h : bootOperand ts = .ok i) : ∃ n, i = .boot n := by
  unfold bootOperand at h
  repeat' split at h
  all_goals cases h
  all_goals exact ⟨_, rfl⟩

theorem configOperands_eq_ok {i : Instr} {ts : List Token} (h : configOperands ts = .ok i) : ∃ a, i = .config a := by
  unfold configOperands at h
  repeat' split at h
  all_goals cases h
  all_goals exact ⟨_, rfl⟩

/-- A script line is a host operation (R79 (d), R82, R83). -/
theorem decodeLine_isHostOp {l : List Byte} {i : Instr} (h : decodeLine l = .ok i) : i.isHostOp = true := by
  unfold decodeLine at h
  split at h
  · unfold parse at h
    repeat' split at h
    · cases h
    · rw [noOperands_eq_ok h]; rfl
    · rw [noOperands_eq_ok h]; rfl
    · obtain ⟨v, c, rfl⟩ := twoWords_eq_ok h; rfl
    · obtain ⟨v, c, rfl⟩ := twoWords_eq_ok h; rfl
    · obtain ⟨id, d, rfl⟩ := rxqOperands_eq_ok h; rfl
    · obtain ⟨v, c, e, rfl⟩ := ctrlOperands_eq_ok h; rfl
    · obtain ⟨n, rfl⟩ := bootOperand_eq_ok h; rfl
    · obtain ⟨a, rfl⟩ := configOperands_eq_ok h; rfl
    · cases h
    · cases h
  · cases h

/-! ### Keys -/

/-- What a map can select is the operation of one of its rows. -/
theorem selected_mem {w : Nat} {rows : List (KeyRow w)} {k : BitVec w} {i : Instr} (h : selected rows k = some i) :
    ∃ r ∈ rows, r.op = i := by
  unfold selected at h
  obtain ⟨r, hr, rfl⟩ := Option.map_eq_some_iff.1 h
  exact ⟨r, List.mem_of_find?_eq_some hr, rfl⟩

/-- A `sel`, `txkey` or `rxkey` selects no host operation (R79). -/
theorem decode_key_not_host {c : Code} {i : Instr} (hc : ∀ l, c ≠ .line l) (h : decode c = .ok i) :
    i.isHostOp = false := by
  cases c with
  | sel k =>
    simp only [decode] at h
    split at h <;> cases h
    obtain ⟨r, hr, rfl⟩ := selected_mem ‹_›
    exact (by decide : ∀ r ∈ selRows, r.op.isHostOp = false) r hr
  | rx k =>
    simp only [decode] at h
    split at h <;> cases h
    obtain ⟨r, hr, rfl⟩ := selected_mem ‹_›
    exact (by decide : ∀ r ∈ rxRows, r.op.isHostOp = false) r hr
  | tx k n =>
    simp only [decode] at h
    split at h <;> cases h
    exact (by decide : ∀ k, ∀ i ∈ txSelected k, i.isHostOp = false) k _ (List.mem_of_getElem? ‹_›)
  | line l => exact absurd rfl (hc l)

end Sys2Proof

namespace Sys2Proof.Machine

/-- Big-endian packing puts the first byte on top (R10, R54). -/
theorem be16_eq_append (a b : Byte) : be16 a b = a ++ b := by
  apply BitVec.eq_of_toNat_eq
  have ha := a.isLt
  have hb := b.isLt
  simp only [be16, BitVec.toNat_or, BitVec.toNat_shiftLeft, BitVec.toNat_setWidth, BitVec.toNat_append]
  have h1 : a.toNat % 2 ^ 16 = a.toNat := Nat.mod_eq_of_lt (by omega)
  have h2 : b.toNat % 2 ^ 16 = b.toNat := Nat.mod_eq_of_lt (by omega)
  rw [h1, h2, Nat.mod_eq_of_lt]
  rw [Nat.shiftLeft_eq]
  omega

end Sys2Proof.Machine
end

