-- ==== Sys2Proof/Laws/State.lean ====
section
/-! SUPPORT. What each named update of the state does to each field: one lemma per field per update. -/

namespace Sys2Proof.Machine

/-! ### setOpState -/

@[simp] theorem State.setOpState_slot (s : State) (v : BitVec 2) :
    (s.setOpState v).slot = s.slot := rfl

@[simp] theorem State.setOpState_rxAnswer (s : State) (v : BitVec 2) :
    (s.setOpState v).rxAnswer = s.rxAnswer := rfl

@[simp] theorem State.setOpState_cfg (s : State) (v : BitVec 2) :
    (s.setOpState v).cfg = s.cfg := rfl

@[simp] theorem State.setOpState_args (s : State) (v : BitVec 2) :
    (s.setOpState v).args = s.args := rfl

@[simp] theorem State.setOpState_stage (s : State) (v : BitVec 2) :
    (s.setOpState v).stage = s.stage := rfl

@[simp] theorem State.setOpState_rxQueue (s : State) (v : BitVec 2) :
    (s.setOpState v).rxQueue = s.rxQueue := rfl

@[simp] theorem State.setOpState_script (s : State) (v : BitVec 2) :
    (s.setOpState v).script = s.script := rfl

@[simp] theorem State.setOpState_trace (s : State) (v : BitVec 2) :
    (s.setOpState v).trace = s.trace := rfl

@[simp] theorem State.setOpState_history (s : State) (v : BitVec 2) :
    (s.setOpState v).history = s.history := rfl

@[simp] theorem State.setOpState_opState (s : State) (v : BitVec 2) :
    (s.setOpState v).regs.opState = v := rfl

@[simp] theorem State.setOpState_netState (s : State) (v : BitVec 2) :
    (s.setOpState v).regs.netState = s.regs.netState := rfl

@[simp] theorem State.setOpState_setpointVoltage (s : State) (v : BitVec 2) :
    (s.setOpState v).regs.setpointVoltage = s.regs.setpointVoltage := rfl

@[simp] theorem State.setOpState_setpointCurrent (s : State) (v : BitVec 2) :
    (s.setOpState v).regs.setpointCurrent = s.regs.setpointCurrent := rfl

@[simp] theorem State.setOpState_enable (s : State) (v : BitVec 2) :
    (s.setOpState v).regs.enable = s.regs.enable := rfl

@[simp] theorem State.setOpState_minCurrent (s : State) (v : BitVec 2) :
    (s.setOpState v).regs.minCurrent = s.regs.minCurrent := rfl

@[simp] theorem State.setOpState_feedbackVoltage (s : State) (v : BitVec 2) :
    (s.setOpState v).regs.feedbackVoltage = s.regs.feedbackVoltage := rfl

@[simp] theorem State.setOpState_feedbackCurrent (s : State) (v : BitVec 2) :
    (s.setOpState v).regs.feedbackCurrent = s.regs.feedbackCurrent := rfl

@[simp] theorem State.setOpState_feedbackVoltageWritten (s : State) (v : BitVec 2) :
    (s.setOpState v).regs.feedbackVoltageWritten = s.regs.feedbackVoltageWritten := rfl

@[simp] theorem State.setOpState_feedbackCurrentWritten (s : State) (v : BitVec 2) :
    (s.setOpState v).regs.feedbackCurrentWritten = s.regs.feedbackCurrentWritten := rfl

@[simp] theorem State.setOpState_lastAction (s : State) (v : BitVec 2) :
    (s.setOpState v).regs.lastAction = s.regs.lastAction := rfl

/-! ### setNetState -/

@[simp] theorem State.setNetState_slot (s : State) (v : BitVec 2) :
    (s.setNetState v).slot = s.slot := rfl

@[simp] theorem State.setNetState_rxAnswer (s : State) (v : BitVec 2) :
    (s.setNetState v).rxAnswer = s.rxAnswer := rfl

@[simp] theorem State.setNetState_cfg (s : State) (v : BitVec 2) :
    (s.setNetState v).cfg = s.cfg := rfl

@[simp] theorem State.setNetState_args (s : State) (v : BitVec 2) :
    (s.setNetState v).args = s.args := rfl

@[simp] theorem State.setNetState_stage (s : State) (v : BitVec 2) :
    (s.setNetState v).stage = s.stage := rfl

@[simp] theorem State.setNetState_rxQueue (s : State) (v : BitVec 2) :
    (s.setNetState v).rxQueue = s.rxQueue := rfl

@[simp] theorem State.setNetState_script (s : State) (v : BitVec 2) :
    (s.setNetState v).script = s.script := rfl

@[simp] theorem State.setNetState_trace (s : State) (v : BitVec 2) :
    (s.setNetState v).trace = s.trace := rfl

@[simp] theorem State.setNetState_history (s : State) (v : BitVec 2) :
    (s.setNetState v).history = s.history := rfl

@[simp] theorem State.setNetState_opState (s : State) (v : BitVec 2) :
    (s.setNetState v).regs.opState = s.regs.opState := rfl

@[simp] theorem State.setNetState_netState (s : State) (v : BitVec 2) :
    (s.setNetState v).regs.netState = v := rfl

@[simp] theorem State.setNetState_setpointVoltage (s : State) (v : BitVec 2) :
    (s.setNetState v).regs.setpointVoltage = s.regs.setpointVoltage := rfl

@[simp] theorem State.setNetState_setpointCurrent (s : State) (v : BitVec 2) :
    (s.setNetState v).regs.setpointCurrent = s.regs.setpointCurrent := rfl

@[simp] theorem State.setNetState_enable (s : State) (v : BitVec 2) :
    (s.setNetState v).regs.enable = s.regs.enable := rfl

@[simp] theorem State.setNetState_minCurrent (s : State) (v : BitVec 2) :
    (s.setNetState v).regs.minCurrent = s.regs.minCurrent := rfl

@[simp] theorem State.setNetState_feedbackVoltage (s : State) (v : BitVec 2) :
    (s.setNetState v).regs.feedbackVoltage = s.regs.feedbackVoltage := rfl

@[simp] theorem State.setNetState_feedbackCurrent (s : State) (v : BitVec 2) :
    (s.setNetState v).regs.feedbackCurrent = s.regs.feedbackCurrent := rfl

@[simp] theorem State.setNetState_feedbackVoltageWritten (s : State) (v : BitVec 2) :
    (s.setNetState v).regs.feedbackVoltageWritten = s.regs.feedbackVoltageWritten := rfl

@[simp] theorem State.setNetState_feedbackCurrentWritten (s : State) (v : BitVec 2) :
    (s.setNetState v).regs.feedbackCurrentWritten = s.regs.feedbackCurrentWritten := rfl

@[simp] theorem State.setNetState_lastAction (s : State) (v : BitVec 2) :
    (s.setNetState v).regs.lastAction = s.regs.lastAction := rfl

/-! ### endCharge -/

@[simp] theorem State.endCharge_slot (s : State) :
    (s.endCharge).slot = s.slot := rfl

@[simp] theorem State.endCharge_rxAnswer (s : State) :
    (s.endCharge).rxAnswer = s.rxAnswer := rfl

@[simp] theorem State.endCharge_cfg (s : State) :
    (s.endCharge).cfg = s.cfg := rfl

@[simp] theorem State.endCharge_args (s : State) :
    (s.endCharge).args = s.args := rfl

@[simp] theorem State.endCharge_stage (s : State) :
    (s.endCharge).stage = s.stage := rfl

@[simp] theorem State.endCharge_rxQueue (s : State) :
    (s.endCharge).rxQueue = s.rxQueue := rfl

@[simp] theorem State.endCharge_script (s : State) :
    (s.endCharge).script = s.script := rfl

@[simp] theorem State.endCharge_trace (s : State) :
    (s.endCharge).trace = s.trace := rfl

@[simp] theorem State.endCharge_history (s : State) :
    (s.endCharge).history = s.history := rfl

@[simp] theorem State.endCharge_opState (s : State) :
    (s.endCharge).regs.opState = OpState.idle := rfl

@[simp] theorem State.endCharge_netState (s : State) :
    (s.endCharge).regs.netState = s.regs.netState := rfl

@[simp] theorem State.endCharge_setpointVoltage (s : State) :
    (s.endCharge).regs.setpointVoltage = s.regs.setpointVoltage := rfl

@[simp] theorem State.endCharge_setpointCurrent (s : State) :
    (s.endCharge).regs.setpointCurrent = s.regs.setpointCurrent := rfl

@[simp] theorem State.endCharge_enable (s : State) :
    (s.endCharge).regs.enable = false := rfl

@[simp] theorem State.endCharge_minCurrent (s : State) :
    (s.endCharge).regs.minCurrent = s.regs.minCurrent := rfl

@[simp] theorem State.endCharge_feedbackVoltage (s : State) :
    (s.endCharge).regs.feedbackVoltage = s.regs.feedbackVoltage := rfl

@[simp] theorem State.endCharge_feedbackCurrent (s : State) :
    (s.endCharge).regs.feedbackCurrent = s.regs.feedbackCurrent := rfl

@[simp] theorem State.endCharge_feedbackVoltageWritten (s : State) :
    (s.endCharge).regs.feedbackVoltageWritten = s.regs.feedbackVoltageWritten := rfl

@[simp] theorem State.endCharge_feedbackCurrentWritten (s : State) :
    (s.endCharge).regs.feedbackCurrentWritten = s.regs.feedbackCurrentWritten := rfl

@[simp] theorem State.endCharge_lastAction (s : State) :
    (s.endCharge).regs.lastAction = s.regs.lastAction := rfl

/-! ### applyControl -/

@[simp] theorem State.applyControl_slot (s : State) (v i : Word) (e : Bool) :
    (s.applyControl v i e).slot = s.slot := rfl

@[simp] theorem State.applyControl_rxAnswer (s : State) (v i : Word) (e : Bool) :
    (s.applyControl v i e).rxAnswer = s.rxAnswer := rfl

@[simp] theorem State.applyControl_cfg (s : State) (v i : Word) (e : Bool) :
    (s.applyControl v i e).cfg = s.cfg := rfl

@[simp] theorem State.applyControl_args (s : State) (v i : Word) (e : Bool) :
    (s.applyControl v i e).args = s.args := rfl

@[simp] theorem State.applyControl_stage (s : State) (v i : Word) (e : Bool) :
    (s.applyControl v i e).stage = s.stage := rfl

@[simp] theorem State.applyControl_rxQueue (s : State) (v i : Word) (e : Bool) :
    (s.applyControl v i e).rxQueue = s.rxQueue := rfl

@[simp] theorem State.applyControl_script (s : State) (v i : Word) (e : Bool) :
    (s.applyControl v i e).script = s.script := rfl

@[simp] theorem State.applyControl_trace (s : State) (v i : Word) (e : Bool) :
    (s.applyControl v i e).trace = s.trace := rfl

@[simp] theorem State.applyControl_history (s : State) (v i : Word) (e : Bool) :
    (s.applyControl v i e).history = s.history := rfl

@[simp] theorem State.applyControl_opState (s : State) (v i : Word) (e : Bool) :
    (s.applyControl v i e).regs.opState = s.regs.opState := rfl

@[simp] theorem State.applyControl_netState (s : State) (v i : Word) (e : Bool) :
    (s.applyControl v i e).regs.netState = s.regs.netState := rfl

@[simp] theorem State.applyControl_setpointVoltage (s : State) (v i : Word) (e : Bool) :
    (s.applyControl v i e).regs.setpointVoltage = v := rfl

@[simp] theorem State.applyControl_setpointCurrent (s : State) (v i : Word) (e : Bool) :
    (s.applyControl v i e).regs.setpointCurrent = i := rfl

@[simp] theorem State.applyControl_enable (s : State) (v i : Word) (e : Bool) :
    (s.applyControl v i e).regs.enable = e := rfl

@[simp] theorem State.applyControl_minCurrent (s : State) (v i : Word) (e : Bool) :
    (s.applyControl v i e).regs.minCurrent = s.regs.minCurrent := rfl

@[simp] theorem State.applyControl_feedbackVoltage (s : State) (v i : Word) (e : Bool) :
    (s.applyControl v i e).regs.feedbackVoltage = s.regs.feedbackVoltage := rfl

@[simp] theorem State.applyControl_feedbackCurrent (s : State) (v i : Word) (e : Bool) :
    (s.applyControl v i e).regs.feedbackCurrent = s.regs.feedbackCurrent := rfl

@[simp] theorem State.applyControl_feedbackVoltageWritten (s : State) (v i : Word) (e : Bool) :
    (s.applyControl v i e).regs.feedbackVoltageWritten = s.regs.feedbackVoltageWritten := rfl

@[simp] theorem State.applyControl_feedbackCurrentWritten (s : State) (v i : Word) (e : Bool) :
    (s.applyControl v i e).regs.feedbackCurrentWritten = s.regs.feedbackCurrentWritten := rfl

@[simp] theorem State.applyControl_lastAction (s : State) (v i : Word) (e : Bool) :
    (s.applyControl v i e).regs.lastAction = s.regs.lastAction := rfl

/-! ### setFeedback -/

@[simp] theorem State.setFeedback_slot (s : State) (v i : Word) :
    (s.setFeedback v i).slot = s.slot := rfl

@[simp] theorem State.setFeedback_rxAnswer (s : State) (v i : Word) :
    (s.setFeedback v i).rxAnswer = s.rxAnswer := rfl

@[simp] theorem State.setFeedback_cfg (s : State) (v i : Word) :
    (s.setFeedback v i).cfg = s.cfg := rfl

@[simp] theorem State.setFeedback_args (s : State) (v i : Word) :
    (s.setFeedback v i).args = s.args := rfl

@[simp] theorem State.setFeedback_stage (s : State) (v i : Word) :
    (s.setFeedback v i).stage = s.stage := rfl

@[simp] theorem State.setFeedback_rxQueue (s : State) (v i : Word) :
    (s.setFeedback v i).rxQueue = s.rxQueue := rfl

@[simp] theorem State.setFeedback_script (s : State) (v i : Word) :
    (s.setFeedback v i).script = s.script := rfl

@[simp] theorem State.setFeedback_trace (s : State) (v i : Word) :
    (s.setFeedback v i).trace = s.trace := rfl

@[simp] theorem State.setFeedback_history (s : State) (v i : Word) :
    (s.setFeedback v i).history = s.history := rfl

@[simp] theorem State.setFeedback_opState (s : State) (v i : Word) :
    (s.setFeedback v i).regs.opState = s.regs.opState := rfl

@[simp] theorem State.setFeedback_netState (s : State) (v i : Word) :
    (s.setFeedback v i).regs.netState = s.regs.netState := rfl

@[simp] theorem State.setFeedback_setpointVoltage (s : State) (v i : Word) :
    (s.setFeedback v i).regs.setpointVoltage = s.regs.setpointVoltage := rfl

@[simp] theorem State.setFeedback_setpointCurrent (s : State) (v i : Word) :
    (s.setFeedback v i).regs.setpointCurrent = s.regs.setpointCurrent := rfl

@[simp] theorem State.setFeedback_enable (s : State) (v i : Word) :
    (s.setFeedback v i).regs.enable = s.regs.enable := rfl

@[simp] theorem State.setFeedback_minCurrent (s : State) (v i : Word) :
    (s.setFeedback v i).regs.minCurrent = s.regs.minCurrent := rfl

@[simp] theorem State.setFeedback_feedbackVoltage (s : State) (v i : Word) :
    (s.setFeedback v i).regs.feedbackVoltage = v := rfl

@[simp] theorem State.setFeedback_feedbackCurrent (s : State) (v i : Word) :
    (s.setFeedback v i).regs.feedbackCurrent = i := rfl

@[simp] theorem State.setFeedback_feedbackVoltageWritten (s : State) (v i : Word) :
    (s.setFeedback v i).regs.feedbackVoltageWritten = true := rfl

@[simp] theorem State.setFeedback_feedbackCurrentWritten (s : State) (v i : Word) :
    (s.setFeedback v i).regs.feedbackCurrentWritten = true := rfl

@[simp] theorem State.setFeedback_lastAction (s : State) (v i : Word) :
    (s.setFeedback v i).regs.lastAction = s.regs.lastAction := rfl

/-! ### setLastAction -/

@[simp] theorem State.setLastAction_slot (s : State) (v : BitVec 2) :
    (s.setLastAction v).slot = s.slot := rfl

@[simp] theorem State.setLastAction_rxAnswer (s : State) (v : BitVec 2) :
    (s.setLastAction v).rxAnswer = s.rxAnswer := rfl

@[simp] theorem State.setLastAction_cfg (s : State) (v : BitVec 2) :
    (s.setLastAction v).cfg = s.cfg := rfl

@[simp] theorem State.setLastAction_args (s : State) (v : BitVec 2) :
    (s.setLastAction v).args = s.args := rfl

@[simp] theorem State.setLastAction_stage (s : State) (v : BitVec 2) :
    (s.setLastAction v).stage = s.stage := rfl

@[simp] theorem State.setLastAction_rxQueue (s : State) (v : BitVec 2) :
    (s.setLastAction v).rxQueue = s.rxQueue := rfl

@[simp] theorem State.setLastAction_script (s : State) (v : BitVec 2) :
    (s.setLastAction v).script = s.script := rfl

@[simp] theorem State.setLastAction_trace (s : State) (v : BitVec 2) :
    (s.setLastAction v).trace = s.trace := rfl

@[simp] theorem State.setLastAction_history (s : State) (v : BitVec 2) :
    (s.setLastAction v).history = s.history := rfl

@[simp] theorem State.setLastAction_opState (s : State) (v : BitVec 2) :
    (s.setLastAction v).regs.opState = s.regs.opState := rfl

@[simp] theorem State.setLastAction_netState (s : State) (v : BitVec 2) :
    (s.setLastAction v).regs.netState = s.regs.netState := rfl

@[simp] theorem State.setLastAction_setpointVoltage (s : State) (v : BitVec 2) :
    (s.setLastAction v).regs.setpointVoltage = s.regs.setpointVoltage := rfl

@[simp] theorem State.setLastAction_setpointCurrent (s : State) (v : BitVec 2) :
    (s.setLastAction v).regs.setpointCurrent = s.regs.setpointCurrent := rfl

@[simp] theorem State.setLastAction_enable (s : State) (v : BitVec 2) :
    (s.setLastAction v).regs.enable = s.regs.enable := rfl

@[simp] theorem State.setLastAction_minCurrent (s : State) (v : BitVec 2) :
    (s.setLastAction v).regs.minCurrent = s.regs.minCurrent := rfl

@[simp] theorem State.setLastAction_feedbackVoltage (s : State) (v : BitVec 2) :
    (s.setLastAction v).regs.feedbackVoltage = s.regs.feedbackVoltage := rfl

@[simp] theorem State.setLastAction_feedbackCurrent (s : State) (v : BitVec 2) :
    (s.setLastAction v).regs.feedbackCurrent = s.regs.feedbackCurrent := rfl

@[simp] theorem State.setLastAction_feedbackVoltageWritten (s : State) (v : BitVec 2) :
    (s.setLastAction v).regs.feedbackVoltageWritten = s.regs.feedbackVoltageWritten := rfl

@[simp] theorem State.setLastAction_feedbackCurrentWritten (s : State) (v : BitVec 2) :
    (s.setLastAction v).regs.feedbackCurrentWritten = s.regs.feedbackCurrentWritten := rfl

@[simp] theorem State.setLastAction_lastAction (s : State) (v : BitVec 2) :
    (s.setLastAction v).regs.lastAction = v := rfl

/-! ### issue -/

@[simp] theorem State.issue_slot (s : State) (c : Command) :
    (s.issue c).slot = s.slot := rfl

@[simp] theorem State.issue_rxAnswer (s : State) (c : Command) :
    (s.issue c).rxAnswer = s.rxAnswer := rfl

@[simp] theorem State.issue_cfg (s : State) (c : Command) :
    (s.issue c).cfg = s.cfg := rfl

@[simp] theorem State.issue_args (s : State) (c : Command) :
    (s.issue c).args = s.args := rfl

@[simp] theorem State.issue_stage (s : State) (c : Command) :
    (s.issue c).stage = s.stage := rfl

@[simp] theorem State.issue_rxQueue (s : State) (c : Command) :
    (s.issue c).rxQueue = s.rxQueue := rfl

@[simp] theorem State.issue_script (s : State) (c : Command) :
    (s.issue c).script = s.script := rfl

@[simp] theorem State.issue_trace (s : State) (c : Command) :
    (s.issue c).trace = s.trace ++ [.act c] := rfl

@[simp] theorem State.issue_history (s : State) (c : Command) :
    (s.issue c).history = s.history := rfl

@[simp] theorem State.issue_opState (s : State) (c : Command) :
    (s.issue c).regs.opState = s.regs.opState := rfl

@[simp] theorem State.issue_netState (s : State) (c : Command) :
    (s.issue c).regs.netState = s.regs.netState := rfl

@[simp] theorem State.issue_setpointVoltage (s : State) (c : Command) :
    (s.issue c).regs.setpointVoltage = s.regs.setpointVoltage := rfl

@[simp] theorem State.issue_setpointCurrent (s : State) (c : Command) :
    (s.issue c).regs.setpointCurrent = s.regs.setpointCurrent := rfl

@[simp] theorem State.issue_enable (s : State) (c : Command) :
    (s.issue c).regs.enable = s.regs.enable := rfl

@[simp] theorem State.issue_minCurrent (s : State) (c : Command) :
    (s.issue c).regs.minCurrent = s.regs.minCurrent := rfl

@[simp] theorem State.issue_feedbackVoltage (s : State) (c : Command) :
    (s.issue c).regs.feedbackVoltage = s.regs.feedbackVoltage := rfl

@[simp] theorem State.issue_feedbackCurrent (s : State) (c : Command) :
    (s.issue c).regs.feedbackCurrent = s.regs.feedbackCurrent := rfl

@[simp] theorem State.issue_feedbackVoltageWritten (s : State) (c : Command) :
    (s.issue c).regs.feedbackVoltageWritten = s.regs.feedbackVoltageWritten := rfl

@[simp] theorem State.issue_feedbackCurrentWritten (s : State) (c : Command) :
    (s.issue c).regs.feedbackCurrentWritten = s.regs.feedbackCurrentWritten := rfl

@[simp] theorem State.issue_lastAction (s : State) (c : Command) :
    (s.issue c).regs.lastAction = c.kind := rfl

/-! ### applyReset -/

@[simp] theorem State.applyReset_slot (s : State) :
    (s.applyReset).slot = .between := rfl

@[simp] theorem State.applyReset_rxAnswer (s : State) :
    (s.applyReset).rxAnswer = none := rfl

@[simp] theorem State.applyReset_cfg (s : State) :
    (s.applyReset).cfg = s.cfg := rfl

@[simp] theorem State.applyReset_args (s : State) :
    (s.applyReset).args = s.args := rfl

@[simp] theorem State.applyReset_stage (s : State) :
    (s.applyReset).stage = .running := rfl

@[simp] theorem State.applyReset_rxQueue (s : State) :
    (s.applyReset).rxQueue = s.rxQueue := rfl

@[simp] theorem State.applyReset_script (s : State) :
    (s.applyReset).script = s.script := rfl

@[simp] theorem State.applyReset_trace (s : State) :
    (s.applyReset).trace = s.trace := rfl

@[simp] theorem State.applyReset_history (s : State) :
    (s.applyReset).history = s.history := rfl

@[simp] theorem State.applyReset_regs (s : State) :
    (s.applyReset).regs = Regs.reset s.cfg := rfl

/-! ### emit -/

@[simp] theorem State.emit_regs (s : State) (e : Event) :
    (s.emit e).regs = s.regs := rfl

@[simp] theorem State.emit_slot (s : State) (e : Event) :
    (s.emit e).slot = s.slot := rfl

@[simp] theorem State.emit_rxAnswer (s : State) (e : Event) :
    (s.emit e).rxAnswer = s.rxAnswer := rfl

@[simp] theorem State.emit_cfg (s : State) (e : Event) :
    (s.emit e).cfg = s.cfg := rfl

@[simp] theorem State.emit_args (s : State) (e : Event) :
    (s.emit e).args = s.args := rfl

@[simp] theorem State.emit_stage (s : State) (e : Event) :
    (s.emit e).stage = s.stage := rfl

@[simp] theorem State.emit_rxQueue (s : State) (e : Event) :
    (s.emit e).rxQueue = s.rxQueue := rfl

@[simp] theorem State.emit_script (s : State) (e : Event) :
    (s.emit e).script = s.script := rfl

@[simp] theorem State.emit_trace (s : State) (e : Event) :
    (s.emit e).trace = s.trace ++ [e] := rfl

@[simp] theorem State.emit_history (s : State) (e : Event) :
    (s.emit e).history = s.history := rfl

/-! ### act -/

@[simp] theorem State.act_regs (s : State) (c : Command) :
    (s.act c).regs = s.regs := rfl

@[simp] theorem State.act_slot (s : State) (c : Command) :
    (s.act c).slot = s.slot := rfl

@[simp] theorem State.act_rxAnswer (s : State) (c : Command) :
    (s.act c).rxAnswer = s.rxAnswer := rfl

@[simp] theorem State.act_cfg (s : State) (c : Command) :
    (s.act c).cfg = s.cfg := rfl

@[simp] theorem State.act_args (s : State) (c : Command) :
    (s.act c).args = s.args := rfl

@[simp] theorem State.act_stage (s : State) (c : Command) :
    (s.act c).stage = s.stage := rfl

@[simp] theorem State.act_rxQueue (s : State) (c : Command) :
    (s.act c).rxQueue = s.rxQueue := rfl

@[simp] theorem State.act_script (s : State) (c : Command) :
    (s.act c).script = s.script := rfl

@[simp] theorem State.act_trace (s : State) (c : Command) :
    (s.act c).trace = s.trace ++ [.act c] := rfl

@[simp] theorem State.act_history (s : State) (c : Command) :
    (s.act c).history = s.history := rfl

/-! ### tx -/

@[simp] theorem State.tx_regs (s : State) (f : Frame) :
    (s.tx f).regs = s.regs := rfl

@[simp] theorem State.tx_slot (s : State) (f : Frame) :
    (s.tx f).slot = s.slot := rfl

@[simp] theorem State.tx_rxAnswer (s : State) (f : Frame) :
    (s.tx f).rxAnswer = s.rxAnswer := rfl

@[simp] theorem State.tx_cfg (s : State) (f : Frame) :
    (s.tx f).cfg = s.cfg := rfl

@[simp] theorem State.tx_args (s : State) (f : Frame) :
    (s.tx f).args = s.args := rfl

@[simp] theorem State.tx_stage (s : State) (f : Frame) :
    (s.tx f).stage = s.stage := rfl

@[simp] theorem State.tx_rxQueue (s : State) (f : Frame) :
    (s.tx f).rxQueue = s.rxQueue := rfl

@[simp] theorem State.tx_script (s : State) (f : Frame) :
    (s.tx f).script = s.script := rfl

@[simp] theorem State.tx_trace (s : State) (f : Frame) :
    (s.tx f).trace = s.trace ++ [.tx f] := rfl

@[simp] theorem State.tx_history (s : State) (f : Frame) :
    (s.tx f).history = s.history := rfl

/-! ### report -/

@[simp] theorem State.report_regs (s : State) (r : Report) :
    (s.report r).regs = s.regs := rfl

@[simp] theorem State.report_slot (s : State) (r : Report) :
    (s.report r).slot = s.slot := rfl

@[simp] theorem State.report_rxAnswer (s : State) (r : Report) :
    (s.report r).rxAnswer = s.rxAnswer := rfl

@[simp] theorem State.report_cfg (s : State) (r : Report) :
    (s.report r).cfg = s.cfg := rfl

@[simp] theorem State.report_args (s : State) (r : Report) :
    (s.report r).args = s.args := rfl

@[simp] theorem State.report_stage (s : State) (r : Report) :
    (s.report r).stage = s.stage := rfl

@[simp] theorem State.report_rxQueue (s : State) (r : Report) :
    (s.report r).rxQueue = s.rxQueue := rfl

@[simp] theorem State.report_script (s : State) (r : Report) :
    (s.report r).script = s.script := rfl

@[simp] theorem State.report_trace (s : State) (r : Report) :
    (s.report r).trace = s.trace ++ [.report r] := rfl

@[simp] theorem State.report_history (s : State) (r : Report) :
    (s.report r).history = s.history := rfl

/-! ### setRxAnswer -/

@[simp] theorem State.setRxAnswer_regs (s : State) (x : Option Frame) :
    (s.setRxAnswer x).regs = s.regs := rfl

@[simp] theorem State.setRxAnswer_slot (s : State) (x : Option Frame) :
    (s.setRxAnswer x).slot = s.slot := rfl

@[simp] theorem State.setRxAnswer_rxAnswer (s : State) (x : Option Frame) :
    (s.setRxAnswer x).rxAnswer = x := rfl

@[simp] theorem State.setRxAnswer_cfg (s : State) (x : Option Frame) :
    (s.setRxAnswer x).cfg = s.cfg := rfl

@[simp] theorem State.setRxAnswer_args (s : State) (x : Option Frame) :
    (s.setRxAnswer x).args = s.args := rfl

@[simp] theorem State.setRxAnswer_stage (s : State) (x : Option Frame) :
    (s.setRxAnswer x).stage = s.stage := rfl

@[simp] theorem State.setRxAnswer_rxQueue (s : State) (x : Option Frame) :
    (s.setRxAnswer x).rxQueue = s.rxQueue := rfl

@[simp] theorem State.setRxAnswer_script (s : State) (x : Option Frame) :
    (s.setRxAnswer x).script = s.script := rfl

@[simp] theorem State.setRxAnswer_trace (s : State) (x : Option Frame) :
    (s.setRxAnswer x).trace = s.trace := rfl

@[simp] theorem State.setRxAnswer_history (s : State) (x : Option Frame) :
    (s.setRxAnswer x).history = s.history := rfl

/-! ### setSlot -/

@[simp] theorem State.setSlot_regs (s : State) (x : Slot) :
    (s.setSlot x).regs = s.regs := rfl

@[simp] theorem State.setSlot_slot (s : State) (x : Slot) :
    (s.setSlot x).slot = x := rfl

@[simp] theorem State.setSlot_rxAnswer (s : State) (x : Slot) :
    (s.setSlot x).rxAnswer = s.rxAnswer := rfl

@[simp] theorem State.setSlot_cfg (s : State) (x : Slot) :
    (s.setSlot x).cfg = s.cfg := rfl

@[simp] theorem State.setSlot_args (s : State) (x : Slot) :
    (s.setSlot x).args = s.args := rfl

@[simp] theorem State.setSlot_stage (s : State) (x : Slot) :
    (s.setSlot x).stage = s.stage := rfl

@[simp] theorem State.setSlot_rxQueue (s : State) (x : Slot) :
    (s.setSlot x).rxQueue = s.rxQueue := rfl

@[simp] theorem State.setSlot_script (s : State) (x : Slot) :
    (s.setSlot x).script = s.script := rfl

@[simp] theorem State.setSlot_trace (s : State) (x : Slot) :
    (s.setSlot x).trace = s.trace := rfl

@[simp] theorem State.setSlot_history (s : State) (x : Slot) :
    (s.setSlot x).history = s.history := rfl

/-! ### setScript -/

@[simp] theorem State.setScript_regs (s : State) (x : List (List Byte)) :
    (s.setScript x).regs = s.regs := rfl

@[simp] theorem State.setScript_slot (s : State) (x : List (List Byte)) :
    (s.setScript x).slot = s.slot := rfl

@[simp] theorem State.setScript_rxAnswer (s : State) (x : List (List Byte)) :
    (s.setScript x).rxAnswer = s.rxAnswer := rfl

@[simp] theorem State.setScript_cfg (s : State) (x : List (List Byte)) :
    (s.setScript x).cfg = s.cfg := rfl

@[simp] theorem State.setScript_args (s : State) (x : List (List Byte)) :
    (s.setScript x).args = s.args := rfl

@[simp] theorem State.setScript_stage (s : State) (x : List (List Byte)) :
    (s.setScript x).stage = s.stage := rfl

@[simp] theorem State.setScript_rxQueue (s : State) (x : List (List Byte)) :
    (s.setScript x).rxQueue = s.rxQueue := rfl

@[simp] theorem State.setScript_script (s : State) (x : List (List Byte)) :
    (s.setScript x).script = x := rfl

@[simp] theorem State.setScript_trace (s : State) (x : List (List Byte)) :
    (s.setScript x).trace = s.trace := rfl

@[simp] theorem State.setScript_history (s : State) (x : List (List Byte)) :
    (s.setScript x).history = s.history := rfl

/-! ### beginCycle -/

@[simp] theorem State.beginCycle_regs (s : State) :
    (s.beginCycle).regs = s.regs := rfl

@[simp] theorem State.beginCycle_slot (s : State) :
    (s.beginCycle).slot = .advance := rfl

@[simp] theorem State.beginCycle_rxAnswer (s : State) :
    (s.beginCycle).rxAnswer = s.rxAnswer := rfl

@[simp] theorem State.beginCycle_cfg (s : State) :
    (s.beginCycle).cfg = s.cfg := rfl

@[simp] theorem State.beginCycle_args (s : State) :
    (s.beginCycle).args = s.args := rfl

@[simp] theorem State.beginCycle_stage (s : State) :
    (s.beginCycle).stage = .running := rfl

@[simp] theorem State.beginCycle_rxQueue (s : State) :
    (s.beginCycle).rxQueue = s.rxQueue := rfl

@[simp] theorem State.beginCycle_script (s : State) :
    (s.beginCycle).script = s.script := rfl

@[simp] theorem State.beginCycle_trace (s : State) :
    (s.beginCycle).trace = [] := rfl

@[simp] theorem State.beginCycle_history (s : State) :
    (s.beginCycle).history = s.history := rfl

/-! ### endCycle -/

@[simp] theorem State.endCycle_regs (s : State) :
    (s.endCycle).regs = s.regs := rfl

@[simp] theorem State.endCycle_slot (s : State) :
    (s.endCycle).slot = .between := rfl

@[simp] theorem State.endCycle_rxAnswer (s : State) :
    (s.endCycle).rxAnswer = s.rxAnswer := rfl

@[simp] theorem State.endCycle_cfg (s : State) :
    (s.endCycle).cfg = s.cfg := rfl

@[simp] theorem State.endCycle_args (s : State) :
    (s.endCycle).args = s.args := rfl

@[simp] theorem State.endCycle_stage (s : State) :
    (s.endCycle).stage = s.stage := rfl

@[simp] theorem State.endCycle_rxQueue (s : State) :
    (s.endCycle).rxQueue = s.rxQueue := rfl

@[simp] theorem State.endCycle_script (s : State) :
    (s.endCycle).script = s.script := rfl

@[simp] theorem State.endCycle_trace (s : State) :
    (s.endCycle).trace = s.trace := rfl

@[simp] theorem State.endCycle_history (s : State) :
    (s.endCycle).history = s.history ++ [⟨s.trace, s.regs⟩] := rfl

/-! ### setConfig -/

@[simp] theorem State.setConfig_regs (s : State) (p : Params) :
    (s.setConfig p).regs = s.regs := rfl

@[simp] theorem State.setConfig_slot (s : State) (p : Params) :
    (s.setConfig p).slot = s.slot := rfl

@[simp] theorem State.setConfig_rxAnswer (s : State) (p : Params) :
    (s.setConfig p).rxAnswer = s.rxAnswer := rfl

@[simp] theorem State.setConfig_cfg (s : State) (p : Params) :
    (s.setConfig p).cfg = p := rfl

@[simp] theorem State.setConfig_args (s : State) (p : Params) :
    (s.setConfig p).args = s.args := rfl

@[simp] theorem State.setConfig_stage (s : State) (p : Params) :
    (s.setConfig p).stage = .configured := rfl

@[simp] theorem State.setConfig_rxQueue (s : State) (p : Params) :
    (s.setConfig p).rxQueue = s.rxQueue := rfl

@[simp] theorem State.setConfig_script (s : State) (p : Params) :
    (s.setConfig p).script = s.script := rfl

@[simp] theorem State.setConfig_trace (s : State) (p : Params) :
    (s.setConfig p).trace = s.trace := rfl

@[simp] theorem State.setConfig_history (s : State) (p : Params) :
    (s.setConfig p).history = s.history := rfl

/-! ### enqueue -/

@[simp] theorem State.enqueue_regs (s : State) (f : Frame) :
    (s.enqueue f).regs = s.regs := rfl

@[simp] theorem State.enqueue_slot (s : State) (f : Frame) :
    (s.enqueue f).slot = s.slot := rfl

@[simp] theorem State.enqueue_rxAnswer (s : State) (f : Frame) :
    (s.enqueue f).rxAnswer = s.rxAnswer := rfl

@[simp] theorem State.enqueue_cfg (s : State) (f : Frame) :
    (s.enqueue f).cfg = s.cfg := rfl

@[simp] theorem State.enqueue_args (s : State) (f : Frame) :
    (s.enqueue f).args = s.args := rfl

@[simp] theorem State.enqueue_stage (s : State) (f : Frame) :
    (s.enqueue f).stage = s.stage := rfl

@[simp] theorem State.enqueue_rxQueue (s : State) (f : Frame) :
    (s.enqueue f).rxQueue = s.rxQueue ++ [f] := rfl

@[simp] theorem State.enqueue_script (s : State) (f : Frame) :
    (s.enqueue f).script = s.script := rfl

@[simp] theorem State.enqueue_trace (s : State) (f : Frame) :
    (s.enqueue f).trace = s.trace := rfl

@[simp] theorem State.enqueue_history (s : State) (f : Frame) :
    (s.enqueue f).history = s.history := rfl

end Sys2Proof.Machine
end

