-- ==== Sys2Proof/Laws/Ops.lean ====
section
/-! SUPPORT. What each shared operation can do, once: sequencing, the cycle boundary guard, feedback reads, the poll,
configuration and frame checks, launch refusals, comparisons, and the phases of a cycle. -/

namespace Sys2Proof.Machine

/-! ### Sequencing and the guard -/

@[simp] theorem andThen_next (s : State) (k : State → Result) : andThen (.next s) k = k s := rfl

@[simp] theorem andThen_fault (f : Fault) (k : State → Result) : andThen (.fault f) k = .fault f := rfl

@[simp] theorem andThen_refused (r : Refusal) (k : State → Result) : andThen (.refused r) k = .refused r := rfl

/-- Two operations in sequence answer a next state exactly when both do. -/
theorem andThen_eq_next {o : Result} {k : State → Result} {t : State} :
    andThen o k = .next t ↔ ∃ s, o = .next s ∧ k s = .next t := by
  cases o <;> simp

theorem andThen_assoc (o : Result) (k l : State → Result) :
    andThen (andThen o k) l = andThen o fun s => andThen (k s) l := by
  cases o <;> rfl

@[simp] theorem betweenCycles_of_between {s : State} (h : s.slot = .between) (r : Result) :
    betweenCycles s r = r := by
  simp [betweenCycles, h]

/-- A guarded operation answers a next state exactly at a cycle boundary, and then as it would unguarded. -/
theorem betweenCycles_eq_next {s t : State} {r : Result} :
    betweenCycles s r = .next t ↔ s.slot = .between ∧ r = .next t := by
  unfold betweenCycles
  split <;> simp_all

theorem betweenCycles_of_not_between {s : State} (h : s.slot ≠ .between) (r : Result) :
    betweenCycles s r = .refused .hostOperationInCycle := by
  simp [betweenCycles, h]

/-! ### Comparisons and flags -/

@[simp] theorem atLeast_iff (a b : Word) : atLeast a b = true ↔ b.toNat ≤ a.toNat := by simp [atLeast]

@[simp] theorem atMost_iff (a b : Word) : atMost a b = true ↔ a.toNat ≤ b.toNat := by simp [atMost]

@[simp] theorem differs_iff (a b : Word) : differs a b = true ↔ a ≠ b := by simp [differs]

/-- A byte stands for an enable flag exactly when it is 0x00 or 0x01 (R78). -/
theorem enableOfByte_eq_some {b : Byte} {e : Bool} :
    enableOfByte b = some e ↔ (b = 0 ∨ b = 1) ∧ e = decide (b = 1) := by
  by_cases h0 : b = 0#8
  · subst h0; cases e <;> simp [enableOfByte]
  · by_cases h1 : b = 1#8
    · subst h1; cases e <;> simp [enableOfByte]
    · simp [enableOfByte, h0, h1]

theorem hasValidEnable_iff (f : Frame) :
    hasValidEnable f = true ↔ f.data[4]? = some 0 ∨ f.data[4]? = some 1 := by
  unfold hasValidEnable
  split
  · rename_i b hb
    by_cases h0 : b = 0#8
    · simp [hb, h0, enableOfByte]
    · by_cases h1 : b = 1#8 <;> simp [hb, h0, h1, enableOfByte]
  · rename_i hb
    simp [hb]

/-! ### Feedback -/

theorem readFeedbackVoltage_of_written {r : Regs} (h : r.feedbackVoltageWritten = true) (q : ReadRule) :
    readFeedbackVoltage q r = .ok r.feedbackVoltage := by
  simp [readFeedbackVoltage, h]

theorem readFeedbackVoltage_of_unwritten {r : Regs} (h : r.feedbackVoltageWritten = false) (q : ReadRule) :
    readFeedbackVoltage q r = .error (.feedbackUnwritten .voltage q) := by
  simp [readFeedbackVoltage, h]

theorem readFeedbackCurrent_of_written {r : Regs} (h : r.feedbackCurrentWritten = true) (q : ReadRule) :
    readFeedbackCurrent q r = .ok r.feedbackCurrent := by
  simp [readFeedbackCurrent, h]

theorem readFeedbackCurrent_of_unwritten {r : Regs} (h : r.feedbackCurrentWritten = false) (q : ReadRule) :
    readFeedbackCurrent q r = .error (.feedbackUnwritten .current q) := by
  simp [readFeedbackCurrent, h]

/-! ### Frames and configurations -/

/-- A frame can be handed to the block exactly when it has at most 8 bytes and its identifier fits (R207). -/
theorem frameProblem_eq_none {p : Params} {f : Frame} :
    frameProblem p f = none ↔ f.data.length ≤ 8 ∧ f.id < 2 ^ p.idWidth := by
  unfold frameProblem Frame.len Config.maxPayload
  split
  · simp; omega
  · split
    · simp; omega
    · simp; omega

/-- A configuration is legal exactly when it keeps R7. -/
theorem configProblem_eq_none {p : Params} :
    configProblem p = none ↔
      (p.idWidth = 11 ∨ p.idWidth = 29) ∧
      (p.heartbeatId < 2 ^ p.idWidth ∧ p.statusId < 2 ^ p.idWidth ∧ p.controlId < 2 ^ p.idWidth) ∧
      (p.heartbeatId ≠ p.statusId ∧ p.heartbeatId ≠ p.controlId ∧ p.statusId ≠ p.controlId) ∧
      (p.hbInit ≠ p.hbPreOperate ∧ p.hbInit ≠ p.hbOperate ∧ p.hbPreOperate ≠ p.hbOperate) := by
  unfold configProblem
  split
  · simp_all
  · split
    · simp_all
    · split
      · simp only [reduceCtorEq, false_iff]; tauto
      · split
        · simp only [reduceCtorEq, false_iff]; tauto
        · simp only [true_iff]; tauto

/-- The model's arguments are a legal configuration (R7). -/
theorem modelArgs_legal : configProblem Config.modelArgs = none :=
  configProblem_eq_none.2
    ⟨Config.openParams.width_allowed,
      ⟨Config.openParams.heartbeat_fits, Config.openParams.status_fits, Config.openParams.control_fits⟩,
      ⟨Config.openParams.heartbeat_ne_status, Config.openParams.heartbeat_ne_control,
        Config.openParams.status_ne_control⟩,
      by simp [Config.modelArgs]⟩

theorem controlId_fits {p : Params} (h : configProblem p = none) : p.controlId < 2 ^ p.idWidth :=
  (configProblem_eq_none.1 h).2.1.2.2

/-- A launch state has a step exactly when it holds no unused encoding and a legal configuration (R207). -/
theorem launchProblem_eq_none {s : State} :
    launchProblem s = none ↔
      s.regs.netState ≠ NetState.unused ∧ s.regs.lastAction ≠ ActionKind.unused ∧ configProblem s.cfg = none := by
  unfold launchProblem
  split
  · simp_all
  · split <;> simp_all

/-- Whatever is wrong with a launch state, it is refused (R207). -/
theorem step_of_launchProblem {s : State} (h : launchProblem s ≠ none) : ∃ r, step s = .refused r := by
  obtain ⟨r, hr⟩ := Option.ne_none_iff_exists'.1 h
  exact ⟨r, by simp only [step, hr]⟩

/-! ### The two-bit registers -/

/-- The four values of a 2-bit register. -/
theorem twoBits_cases (v : BitVec 2) : v = 0 ∨ v = 1 ∨ v = 2 ∨ v = 3 := by
  revert v; decide

theorem opState_cases (v : BitVec 2) :
    v = OpState.idle ∨ v = OpState.constantCurrent ∨ v = OpState.constantVoltage ∨ v = OpState.invalid :=
  twoBits_cases v

theorem netState_cases (v : BitVec 2) :
    v = NetState.init ∨ v = NetState.preOperate ∨ v = NetState.operate ∨ v = NetState.unused :=
  twoBits_cases v

/-- Every network state but 0b11 has a heartbeat code. -/
theorem hbCode_exists {p : Params} {n : BitVec 2} (h : n ≠ NetState.unused) : ∃ c, hbCode p n = some c := by
  unfold hbCode
  rcases netState_cases n with h0 | h0 | h0 | h0
  · exact ⟨_, by rw [if_pos h0]⟩
  · subst h0; exact ⟨_, rfl⟩
  · subst h0; exact ⟨_, rfl⟩
  · exact absurd h0 h

theorem hbCode_eq_none {p : Params} {n : BitVec 2} (h : n = NetState.unused) : hbCode p n = none := by
  subst h; rfl

/-! ### The poll -/

/-- What a successful poll leaves: the oldest frame as the answer, and one event (R160, R183). -/
theorem poll_eq_ok {s t : State} :
    poll s = .ok t ↔ s.AnswerFits ∧
      t = { s with rxAnswer := s.answer, rxQueue := s.rxQueue.tail, trace := s.trace ++ [.rxPoll s.answer] } := by
  unfold poll State.AnswerFits State.answer
  cases h : s.rxQueue with
  | nil =>
    simp only [List.head?_nil, List.tail_nil, Except.ok.injEq, reduceCtorEq, false_implies, implies_true, true_and]
    constructor
    · rintro rfl; simp [State.emit]
    · rintro rfl; simp [State.emit]
  | cons f fs =>
    simp only [List.head?_cons, List.tail_cons, Option.some.injEq, forall_eq']
    cases hf : frameProblem s.cfg f <;> simp [State.emit, eq_comm]

/-- A poll refuses exactly when the oldest frame does not fit. -/
theorem poll_eq_error {s : State} {r : Refusal} :
    poll s = .error r ↔ ∃ f, s.answer = some f ∧ frameProblem s.cfg f = some r := by
  unfold poll State.answer
  cases h : s.rxQueue with
  | nil => simp
  | cons f fs =>
    simp only [List.head?_cons, Option.some.injEq, exists_eq_left']
    cases hf : frameProblem s.cfg f <;> simp

/-! ### Tags of outcomes -/

theorem nextIs_eq_true {o : Result} {q : State → Bool} : nextIs o q = true ↔ ∃ t, o = .next t ∧ q t = true := by
  cases o <;> simp [nextIs]

end Sys2Proof.Machine
end

