-- ==== Sys2Proof/Laws/PerInstr.lean ====
section
/-! SUPPORT. A statement made for every constructor of Instr: the form of its code. -/

namespace Sys2Proof.Laws

/-- The keyword of a host operation (R82, R83). -/
def keyword : Instr → Option (List Byte)
  | .advanceIdle => none
  | .advanceCc => none
  | .advanceCv => none
  | .advanceInvalid => none
  | .vloopIdle => none
  | .vloopCc => none
  | .vloopCv => none
  | .regulateInvalid => none
  | .iloopIdle => none
  | .iloopCc => none
  | .iloopCv => none
  | .encHeartbeat => none
  | .encStatus => none
  | .rxNone => none
  | .rxOther => none
  | .ctrlBadlen => none
  | .ctrlBaden => none
  | .ctrlOk => none
  | .tick => some kwTick
  | .sense _ _ => some kwSense
  | .rxq _ _ => some kwRxq
  | .config _ => some kwConfig
  | .reset => some kwReset
  | .ctrl _ _ _ => some kwCtrl
  | .step _ _ => some kwStep
  | .boot _ => some kwBoot

/-- An operation with a keyword is a host operation, coded as a line that starts with it (R79 (d)); one without is coded
as a key that selects it (R79 (a) to (c)). -/
def EncodedForm.Statement (i : Instr) : Prop :=
  match keyword i with
  | some k => i.isHostOp = true ∧ ∃ operands, encode i = .line (k ++ operands)
  | none => i.isHostOp = false ∧ decode (encode i) = .ok i

theorem EncodedForm.advanceIdle : EncodedForm.Statement .advanceIdle := ⟨rfl, by decide⟩

theorem EncodedForm.advanceCc : EncodedForm.Statement .advanceCc := ⟨rfl, by decide⟩

theorem EncodedForm.advanceCv : EncodedForm.Statement .advanceCv := ⟨rfl, by decide⟩

theorem EncodedForm.advanceInvalid : EncodedForm.Statement .advanceInvalid := ⟨rfl, by decide⟩

theorem EncodedForm.vloopIdle : EncodedForm.Statement .vloopIdle := ⟨rfl, by decide⟩

theorem EncodedForm.vloopCc : EncodedForm.Statement .vloopCc := ⟨rfl, by decide⟩

theorem EncodedForm.vloopCv : EncodedForm.Statement .vloopCv := ⟨rfl, by decide⟩

theorem EncodedForm.regulateInvalid : EncodedForm.Statement .regulateInvalid := ⟨rfl, by decide⟩

theorem EncodedForm.iloopIdle : EncodedForm.Statement .iloopIdle := ⟨rfl, by decide⟩

theorem EncodedForm.iloopCc : EncodedForm.Statement .iloopCc := ⟨rfl, by decide⟩

theorem EncodedForm.iloopCv : EncodedForm.Statement .iloopCv := ⟨rfl, by decide⟩

theorem EncodedForm.encHeartbeat : EncodedForm.Statement .encHeartbeat := ⟨rfl, by decide⟩

theorem EncodedForm.encStatus : EncodedForm.Statement .encStatus := ⟨rfl, by decide⟩

theorem EncodedForm.rxNone : EncodedForm.Statement .rxNone := ⟨rfl, by decide⟩

theorem EncodedForm.rxOther : EncodedForm.Statement .rxOther := ⟨rfl, by decide⟩

theorem EncodedForm.ctrlBadlen : EncodedForm.Statement .ctrlBadlen := ⟨rfl, by decide⟩

theorem EncodedForm.ctrlBaden : EncodedForm.Statement .ctrlBaden := ⟨rfl, by decide⟩

theorem EncodedForm.ctrlOk : EncodedForm.Statement .ctrlOk := ⟨rfl, by decide⟩

theorem EncodedForm.tick : EncodedForm.Statement .tick := ⟨rfl, [], rfl⟩

theorem EncodedForm.sense (v : Word) (i : Word) : EncodedForm.Statement (.sense v i) := ⟨rfl, _, rfl⟩

theorem EncodedForm.rxq (id : Nat) (data : List Byte) : EncodedForm.Statement (.rxq id data) := ⟨rfl, _, rfl⟩

theorem EncodedForm.config (a : ConfigArgs) : EncodedForm.Statement (.config a) := ⟨rfl, _, rfl⟩

theorem EncodedForm.reset : EncodedForm.Statement .reset := ⟨rfl, [], rfl⟩

theorem EncodedForm.ctrl (v : Word) (i : Word) (e : Byte) : EncodedForm.Statement (.ctrl v i e) := ⟨rfl, _, rfl⟩

theorem EncodedForm.step (v : Word) (i : Word) : EncodedForm.Statement (.step v i) := ⟨rfl, _, rfl⟩

theorem EncodedForm.boot (n : Word) : EncodedForm.Statement (.boot n) := ⟨rfl, _, rfl⟩

end Sys2Proof.Laws
end

