-- ==== Sys2Proof/Laws/Phases.lean ====
section
/-! SUPPORT. What each phase of a cycle can do, once: ADVANCE by entry state, REGULATE by post state, the two encoders, and
the poll with its decode. Later proofs cite these instead of unfolding the operations. -/

namespace Sys2Proof.Machine

/-! ### ADVANCE (R100 to R104) -/

theorem advance_of_idle {s : State} (h : s.regs.opState = OpState.idle) :
    advance s = .next { s with regs := { s.regs with netState := NetState.preOperate, opState := nextOp s.regs } } := by
  simp only [advance, h, if_true, execAdvanceIdle, nextOp]; rfl

theorem advance_of_cc {s : State} (h : s.regs.opState = OpState.constantCurrent)
    (hw : s.regs.feedbackVoltageWritten = true) :
    advance s = .next { s with regs := { s.regs with netState := NetState.operate, opState := nextOp s.regs } } := by
  have h0 : ¬OpState.constantCurrent = OpState.idle := by decide
  simp only [advance, h, h0, if_true, if_false, execAdvanceCc, readFeedbackVoltage_of_written hw, atLeast_iff, nextOp]
  rfl

theorem advance_of_cc_unwritten {s : State} (h : s.regs.opState = OpState.constantCurrent)
    (hw : s.regs.feedbackVoltageWritten = false) : advance s = .fault (.feedbackUnwritten .voltage .r102) := by
  have h0 : ¬OpState.constantCurrent = OpState.idle := by decide
  simp only [advance, h, h0, if_true, if_false, execAdvanceCc, readFeedbackVoltage_of_unwritten hw]

theorem advance_of_cv {s : State} (h : s.regs.opState = OpState.constantVoltage)
    (hw : s.regs.feedbackCurrentWritten = true) :
    advance s = .next { s with regs := { s.regs with
      netState := NetState.operate, opState := nextOp s.regs, enable := enableAfterAdvance s.regs } } := by
  have h0 : ¬OpState.constantVoltage = OpState.idle := by decide
  have h1 : ¬OpState.constantVoltage = OpState.constantCurrent := by decide
  by_cases hc : s.regs.feedbackCurrent.toNat ≤ s.regs.minCurrent.toNat <;>
    simp [advance, h, h0, h1, execAdvanceCv, readFeedbackCurrent_of_written hw, nextOp, enableAfterAdvance, hc,
      State.endCharge, State.setNetState, State.setOpState]

theorem advance_of_cv_unwritten {s : State} (h : s.regs.opState = OpState.constantVoltage)
    (hw : s.regs.feedbackCurrentWritten = false) : advance s = .fault (.feedbackUnwritten .current .r103) := by
  have h0 : ¬OpState.constantVoltage = OpState.idle := by decide
  have h1 : ¬OpState.constantVoltage = OpState.constantCurrent := by decide
  simp only [advance, h, h0, h1, if_true, if_false, execAdvanceCv, readFeedbackCurrent_of_unwritten hw]

theorem advance_of_invalid {s : State} (h : s.regs.opState = OpState.invalid) :
    advance s = .next (s.report (.invalidStateAdvance OpState.invalid)) := by
  have h0 : ¬OpState.invalid = OpState.idle := by decide
  have h1 : ¬OpState.invalid = OpState.constantCurrent := by decide
  have h2 : ¬OpState.invalid = OpState.constantVoltage := by decide
  simp only [advance, h, h0, h1, h2, if_false, execAdvanceInvalid]

/-! ### REGULATE (R120 to R128) -/

theorem regulate_of_idle {s : State} (h : s.regs.opState = OpState.idle) :
    regulate s = .next { s with
      regs := { s.regs with lastAction := ActionKind.stopAll }
      trace := s.trace ++ [.act .stopAll, .act .stopAll] } := by
  have h0 : ¬OpState.idle = OpState.invalid := by decide
  simp [regulate, h, h0, vloop, iloop, execVloopIdle, execIloopIdle, State.issue, State.act, State.emit,
    State.setLastAction, Command.kind]

theorem regulate_of_cc {s : State} (h : s.regs.opState = OpState.constantCurrent)
    (hw : s.regs.feedbackCurrentWritten = true) :
    regulate s = .next
      (if s.regs.feedbackCurrent = s.regs.setpointCurrent then s else s.issue (.setCurrent s.regs.setpointCurrent)) := by
  have h0 : ¬OpState.constantCurrent = OpState.invalid := by decide
  have h1 : ¬OpState.constantCurrent = OpState.idle := by decide
  by_cases hc : s.regs.feedbackCurrent = s.regs.setpointCurrent <;>
    simp [regulate, h, h0, h1, vloop, iloop, execVloopCc, execIloopCc, readFeedbackCurrent_of_written hw, hc]

theorem regulate_of_cc_unwritten {s : State} (h : s.regs.opState = OpState.constantCurrent)
    (hw : s.regs.feedbackCurrentWritten = false) : regulate s = .fault (.feedbackUnwritten .current .r125) := by
  have h0 : ¬OpState.constantCurrent = OpState.invalid := by decide
  have h1 : ¬OpState.constantCurrent = OpState.idle := by decide
  simp [regulate, h, h0, h1, vloop, iloop, execVloopCc, execIloopCc, readFeedbackCurrent_of_unwritten hw]

theorem regulate_of_cv {s : State} (h : s.regs.opState = OpState.constantVoltage)
    (hw : s.regs.feedbackVoltageWritten = true) :
    regulate s = .next
      (if s.regs.feedbackVoltage = s.regs.setpointVoltage then s else s.issue (.setVoltage s.regs.setpointVoltage)) := by
  have h0 : ¬OpState.constantVoltage = OpState.invalid := by decide
  have h1 : ¬OpState.constantVoltage = OpState.idle := by decide
  have h2 : ¬OpState.constantVoltage = OpState.constantCurrent := by decide
  by_cases hc : s.regs.feedbackVoltage = s.regs.setpointVoltage <;>
    simp [regulate, h, h0, h1, h2, vloop, iloop, execVloopCv, execIloopCv, readFeedbackVoltage_of_written hw, hc]

theorem regulate_of_cv_unwritten {s : State} (h : s.regs.opState = OpState.constantVoltage)
    (hw : s.regs.feedbackVoltageWritten = false) : regulate s = .fault (.feedbackUnwritten .voltage .r123) := by
  have h0 : ¬OpState.constantVoltage = OpState.invalid := by decide
  have h1 : ¬OpState.constantVoltage = OpState.idle := by decide
  have h2 : ¬OpState.constantVoltage = OpState.constantCurrent := by decide
  simp [regulate, h, h0, h1, h2, vloop, execVloopCv, readFeedbackVoltage_of_unwritten hw]

theorem regulate_of_invalid {s : State} (h : s.regs.opState = OpState.invalid) :
    regulate s = .next (s.report (.invalidStateRegulate OpState.invalid)) := by
  simp only [regulate, h, if_true, execRegulateInvalid]

/-! ### The encoders (R140, R142) -/

theorem execEncHeartbeat_of_code {s : State} {c : Byte} (h : hbCode s.cfg s.regs.netState = some c) :
    execEncHeartbeat s = .next (s.tx (heartbeatFrame s.cfg c)) := by
  simp only [execEncHeartbeat, h]

theorem execEncHeartbeat_of_unused {s : State} (h : s.regs.netState = NetState.unused) :
    execEncHeartbeat s = .refused .netStateUnused := by
  simp only [execEncHeartbeat, hbCode_eq_none h]

theorem execEncStatus_of_operate {s : State} (h : s.regs.netState = NetState.operate)
    (hv : s.regs.feedbackVoltageWritten = true) (hi : s.regs.feedbackCurrentWritten = true) :
    execEncStatus s = .next (s.tx (statusFrame s.cfg s.regs.feedbackVoltage s.regs.feedbackCurrent)) := by
  simp only [execEncStatus, h, if_true, readFeedbackVoltage_of_written hv, readFeedbackCurrent_of_written hi]

theorem execEncStatus_of_voltage_unwritten {s : State} (h : s.regs.netState = NetState.operate)
    (hv : s.regs.feedbackVoltageWritten = false) :
    execEncStatus s = .fault (.feedbackUnwritten .voltage .r142) := by
  simp only [execEncStatus, h, if_true, readFeedbackVoltage_of_unwritten hv]

theorem execEncStatus_of_current_unwritten {s : State} (h : s.regs.netState = NetState.operate)
    (hv : s.regs.feedbackVoltageWritten = true) (hi : s.regs.feedbackCurrentWritten = false) :
    execEncStatus s = .fault (.feedbackUnwritten .current .r142) := by
  simp only [execEncStatus, h, if_true, readFeedbackVoltage_of_written hv, readFeedbackCurrent_of_unwritten hi]

theorem execEncStatus_of_not_operate {s : State} (h : s.regs.netState ≠ NetState.operate) :
    execEncStatus s = .next s := by
  simp only [execEncStatus, h, if_false]

/-! ### The poll and the decode (R160 to R166) -/

/-- The registers after a control update, if there is one (R57, R166). -/
def Regs.updated (r : Regs) (u : Option (Word × Word × Bool)) : Regs :=
  { r with
    setpointVoltage := (u.map fun u => u.1).getD r.setpointVoltage
    setpointCurrent := (u.map fun u => u.2.1).getD r.setpointCurrent
    enable := (u.map fun u => u.2.2).getD r.enable }

/-- DEC_CONTROL reports and updates as the tables say, and the answer is gone after it. -/
theorem decControl_eq (s : State) :
    decControl s = .next { s with
      regs := s.regs.updated (controlUpdate s.cfg s.rxAnswer)
      rxAnswer := none
      trace := s.trace ++ (decodeReports s.cfg s.rxAnswer).map .report } := by
  unfold decControl
  cases ha : s.rxAnswer with
  | none => simp [execRxNone, State.setRxAnswer, controlUpdate, decodeReports, Regs.updated]
  | some f =>
    obtain ⟨id, data⟩ := f
    by_cases hid : id = s.cfg.controlId
    · simp only [hid, ne_eq, not_true_eq_false, if_false, Frame.len, Config.ctrlMinLen]
      match data with
      | [] | [_] | [_, _] | [_, _, _] | [_, _, _, _] =>
        simp [execCtrlBadlen, ha, State.report, State.emit, State.setRxAnswer, controlUpdate, decodeReports,
          Regs.updated, hid]
      | d0 :: d1 :: d2 :: d3 :: d4 :: rest =>
        have hl : ¬(d0 :: d1 :: d2 :: d3 :: d4 :: rest).length < 5 := by simp
        by_cases hv : d4 = 0#8 ∨ d4 = 1#8
        · have he : enableOfByte d4 = some (decide (d4 = 1#8)) := enableOfByte_eq_some.2 ⟨hv, rfl⟩
          have hve : hasValidEnable ⟨s.cfg.controlId, d0 :: d1 :: d2 :: d3 :: d4 :: rest⟩ = true :=
            (hasValidEnable_iff _).2 (by simpa using hv)
          rw [if_neg hl, if_pos hve]
          have hr : decodeReports s.cfg (some ⟨s.cfg.controlId, d0 :: d1 :: d2 :: d3 :: d4 :: rest⟩) = [] := by
            simp [decodeReports, hv]
          simp only [execCtrlOk, ha, hid, he, hr]
          simp [State.applyControl, State.setRxAnswer, controlUpdate, hv, Regs.updated]
        · have hve : ¬hasValidEnable ⟨s.cfg.controlId, d0 :: d1 :: d2 :: d3 :: d4 :: rest⟩ = true := fun h =>
            hv (by simpa using (hasValidEnable_iff _).1 h)
          have hn : ¬rest.length + 1 + 1 + 1 + 1 + 1 < 5 := by omega
          rw [if_neg hl, if_neg hve]
          simp [execCtrlBaden, ha, hid, State.report, State.emit, State.setRxAnswer, controlUpdate, decodeReports, hv,
            hn, Regs.updated]
    · have hu : controlUpdate s.cfg (some ⟨id, data⟩) = none := by
        unfold controlUpdate
        split
        · rename_i heq
          cases heq
          simp [hid]
        · rfl
      simp [hid, execRxOther, State.setRxAnswer, hu, decodeReports, Regs.updated]

/-- The poll and the decode, when the answer fits. -/
theorem receive_of_fits {s : State} (h : s.AnswerFits) :
    receive s = .next { s with
      regs := s.regs.updated (controlUpdate s.cfg s.answer)
      rxAnswer := none
      rxQueue := s.rxQueue.tail
      trace := s.trace ++ [.rxPoll s.answer] ++ (decodeReports s.cfg s.answer).map .report } := by
  simp only [receive, poll_eq_ok.2 ⟨h, rfl⟩, decControl_eq]

/-- The poll refuses a frame that does not fit. -/
theorem receive_of_not_fits {s : State} (h : ¬s.AnswerFits) : ∃ r, receive s = .refused r := by
  unfold State.AnswerFits at h
  push Not at h
  obtain ⟨f, hf, hp⟩ := h
  obtain ⟨r, hr⟩ := Option.ne_none_iff_exists'.1 hp
  exact ⟨r, by simp only [receive, poll_eq_error.2 ⟨f, hf, hr⟩]⟩

end Sys2Proof.Machine
end

