-- ==== Sys2Proof/Laws/Step.lean ====
section
/-! SUPPORT. What a step can do, once: where its next state comes from, and what the fetch and the retirement around an
operation leave alone. -/

namespace Sys2Proof.Machine

/-- A next state of a step is the state itself (nothing left to do), a skip, or an operation run and retired. -/
theorem step_eq_next {s t : State} (h : step s = .next t) :
    launchProblem s = none ∧
      (fetch s = .quiet ∧ t = s ∨ fetch s = .skip t ∨
        ∃ i u v, fetch s = .op i u ∧ exec i u = .next v ∧ t = retire s.slot i v) := by
  unfold step at h
  split at h
  · cases h
  · rename_i hl
    refine ⟨hl, ?_⟩
    split at h
    · cases h
      exact .inl ⟨‹_›, rfl⟩
    · cases h
      exact .inr (.inl ‹_›)
    · obtain ⟨v, hv, h⟩ := andThen_eq_next.1 h
      cases h
      exact .inr (.inr ⟨_, _, v, ‹_›, hv, rfl⟩)
    · cases h

theorem fetchKey_eq_op {c : Code} {s t : State} {i : Instr} (h : fetchKey c s = .op i t) :
    decode c = .ok i ∧ t = s := by
  unfold fetchKey at h
  split at h <;> cases h
  exact ⟨‹_›, rfl⟩

theorem fetchKey_ne_skip (c : Code) (s t : State) : fetchKey c s ≠ .skip t := by
  intro h
  unfold fetchKey at h
  split at h <;> cases h

/-- Between cycles the fetch only takes a line off the script, and the operation is a host operation. -/
theorem fetch_between_op {s t : State} {i : Instr} (hs : s.slot = .between) (h : fetch s = .op i t) :
    (∃ ls, t = s.setScript ls) ∧ i.isHostOp = true := by
  simp only [fetch, hs, fetchLine] at h
  repeat' split at h
  all_goals cases h
  exact ⟨⟨_, rfl⟩, decodeLine_isHostOp ‹_›⟩

/-- Inside a cycle the fetch writes no register and no parameter, and the operation is no host operation. -/
theorem fetch_inside_op {s t : State} {i : Instr} (hs : s.slot ≠ .between) (h : fetch s = .op i t) :
    t.regs = s.regs ∧ t.cfg = s.cfg ∧ t.stage = s.stage ∧ t.slot = s.slot ∧ i.isHostOp = false := by
  unfold fetch at h
  split at h
  · exact absurd ‹_› hs
  · obtain ⟨hd, rfl⟩ := fetchKey_eq_op h
    exact ⟨rfl, rfl, rfl, rfl, decode_key_not_host (by simp) hd⟩
  · obtain ⟨hd, rfl⟩ := fetchKey_eq_op h
    exact ⟨rfl, rfl, rfl, rfl, decode_key_not_host (by simp) hd⟩
  · obtain ⟨hd, rfl⟩ := fetchKey_eq_op h
    exact ⟨rfl, rfl, rfl, rfl, decode_key_not_host (by simp) hd⟩
  · obtain ⟨hd, rfl⟩ := fetchKey_eq_op h
    exact ⟨rfl, rfl, rfl, rfl, decode_key_not_host (by simp) hd⟩
  · split at h <;> cases h
    exact ⟨rfl, rfl, rfl, rfl, decode_key_not_host (c := .tx _ 1) (by simp) ‹_›⟩
  · split at h
    · rename_i u hu
      obtain ⟨hd, rfl⟩ := fetchKey_eq_op h
      obtain ⟨-, rfl⟩ := poll_eq_ok.1 hu
      exact ⟨rfl, rfl, rfl, rfl, decode_key_not_host (by simp) hd⟩
    · cases h

/-- A skip takes a blank line off the script, or passes the closed status gate. -/
theorem fetch_eq_skip {s t : State} (h : fetch s = .skip t) :
    s.slot = .between ∧ (∃ ls, t = s.setScript ls) ∨ s.slot = .status ∧ t = s.setSlot .poll := by
  unfold fetch at h
  split at h
  · simp only [fetchLine] at h
    repeat' split at h
    all_goals cases h
    exact .inl ⟨‹_›, _, rfl⟩
  · exact absurd h (fetchKey_ne_skip _ _ _)
  · exact absurd h (fetchKey_ne_skip _ _ _)
  · exact absurd h (fetchKey_ne_skip _ _ _)
  · exact absurd h (fetchKey_ne_skip _ _ _)
  · split at h <;> cases h
    exact .inr ⟨‹_›, rfl⟩
  · split at h
    · exact absurd h (fetchKey_ne_skip _ _ _)
    · cases h

@[simp] theorem retire_regs (x : Slot) (i : Instr) (s : State) : (retire x i s).regs = s.regs := by cases x <;> rfl

@[simp] theorem retire_cfg (x : Slot) (i : Instr) (s : State) : (retire x i s).cfg = s.cfg := by cases x <;> rfl

@[simp] theorem retire_args (x : Slot) (i : Instr) (s : State) : (retire x i s).args = s.args := by cases x <;> rfl

@[simp] theorem retire_stage (x : Slot) (i : Instr) (s : State) : (retire x i s).stage = s.stage := by cases x <;> rfl

@[simp] theorem retire_rxQueue (x : Slot) (i : Instr) (s : State) : (retire x i s).rxQueue = s.rxQueue := by
  cases x <;> rfl

@[simp] theorem retire_script (x : Slot) (i : Instr) (s : State) : (retire x i s).script = s.script := by cases x <;> rfl

@[simp] theorem retire_trace (x : Slot) (i : Instr) (s : State) : (retire x i s).trace = s.trace := by cases x <;> rfl

/-- A host operation leaves the sequencer where it put it. -/
@[simp] theorem retire_between (i : Instr) (s : State) : retire .between i s = s := rfl

end Sys2Proof.Machine
end

