-- ==== Sys2Proof/Tests/Slice0.lean ====
section
/-! SUPPORT. Tests. Expected results are the spec's: the encodings of 30_encoding.md and the vectors of
95_test_vectors.md, named in each comment. The witness theorems show, for each statement of
Certificates/Slice0/Obligations.lean that has hypotheses, inputs that meet them all. -/

namespace Sys2Proof.Tests

open Sys2Proof.Machine

/-! ### States to test on -/

/-- A booted machine in the example configuration, just reset. -/
def booted : State :=
  { regs := Regs.reset Config.example11, slot := .between, rxAnswer := none, cfg := Config.example11,
    args := Config.example11, stage := .running, rxQueue := [], script := [], trace := [], history := [] }

/-- The same, with these states, feedback `v`/`i`, setpoints 120/50 and `enable` true. -/
def charging (op net : BitVec 2) (v i : Word) : State :=
  { booted with regs := { booted.regs with
      opState := op, netState := net, setpointVoltage := 120, setpointCurrent := 50, enable := true,
      feedbackVoltage := v, feedbackCurrent := i, feedbackVoltageWritten := true, feedbackCurrentWritten := true,
      lastAction := ActionKind.setCurrent } }

/-- A state whose poll has just answered that frame. -/
def answered (f : Frame) : State := { booted with slot := .poll, rxAnswer := some f }

/-- What a test asks of a next state's registers and trace. -/
def ends (o : Result) (op net last : BitVec 2) (enable : Bool) (trace : List Event) : Bool :=
  nextIs o fun t => decide (t.regs.opState = op ∧ t.regs.netState = net ∧ t.regs.lastAction = last ∧
    t.regs.enable = enable ∧ t.trace = trace)

/-- What a test asks of a decode: sp and enable after, and the reports. -/
def decoded (o : Result) (v i : Word) (e : Bool) (trace : List Event) : Bool :=
  nextIs o fun t => decide (t.regs.setpointVoltage = v ∧ t.regs.setpointCurrent = i ∧ t.regs.enable = e ∧
    t.trace = trace ∧ t.rxAnswer = none)

/-! ### WellFormed smoke test: an ill-formed term for each check -/

theorem test_wf_rxq_id : (Instr.rxq (2 ^ 29) []).wellFormed = false := by decide
theorem test_wf_rxq_nine_bytes : (Instr.rxq 1 [0, 1, 2, 3, 4, 5, 6, 7, 8]).wellFormed = false := by decide
theorem test_wf_heartbeat_id : (Instr.config { heartbeatId := some (2 ^ 29) }).wellFormed = false := by decide
theorem test_wf_status_id : (Instr.config { statusId := some (2 ^ 29) }).wellFormed = false := by decide
theorem test_wf_control_id : (Instr.config { controlId := some (2 ^ 29) }).wellFormed = false := by decide
theorem test_wf_width : (Instr.config { idWidth := some 12 }).wellFormed = false := by decide
theorem test_wf_codes : (Instr.config { hbCode := some (0, 1, 1) }).wellFormed = false := by decide
theorem test_wf_accepts :
    (Instr.rxq (2 ^ 29 - 1) [0, 1, 2, 3, 4, 5, 6, 7]).wellFormed = true ∧
    (Instr.config ⟨some 10, some 0x701, some 0x181, some 0x201, some 29, some (0x00, 0x7F, 0x05)⟩).wellFormed = true := by
  decide

/-! ### Decoding -/

/-- R79 (a), key by key. -/
theorem test_decode_sel :
    decode (.sel 0b0000) = .ok .advanceIdle ∧ decode (.sel 0b0001) = .ok .advanceCc ∧
    decode (.sel 0b0010) = .ok .advanceCv ∧ decode (.sel 0b0011) = .ok .advanceInvalid ∧
    decode (.sel 0b0100) = .ok .vloopIdle ∧ decode (.sel 0b0101) = .ok .vloopCc ∧
    decode (.sel 0b0110) = .ok .vloopCv ∧ decode (.sel 0b0111) = .ok .regulateInvalid ∧
    decode (.sel 0b1000) = .ok .iloopIdle ∧ decode (.sel 0b1001) = .ok .iloopCc ∧
    decode (.sel 0b1010) = .ok .iloopCv := by decide

/-- R79, R80: 0b1011 and 0b11xx select nothing. -/
theorem test_decode_sel_unused :
    decode (.sel 0b1011) = .error (.neverSelected 0b1011) ∧ decode (.sel 0b1100) = .error (.neverSelected 0b1100) ∧
    decode (.sel 0b1101) = .error (.neverSelected 0b1101) ∧ decode (.sel 0b1110) = .error (.neverSelected 0b1110) ∧
    decode (.sel 0b1111) = .error (.neverSelected 0b1111) := by decide

/-- R79 (b): the heartbeat on every txkey, then the status on an open gate only. -/
theorem test_decode_tx :
    decode (.tx 0b0 0) = .ok .encHeartbeat ∧ decode (.tx 0b1 0) = .ok .encHeartbeat ∧
    decode (.tx 0b1 1) = .ok .encStatus ∧ decode (.tx 0b0 1) = .error .gateClosed ∧
    decode (.tx 0b1 2) = .error .gateClosed := by decide

/-- R79 (c): every don't-care bit at both values. -/
theorem test_decode_rx :
    (∀ k : BitVec 3, decode (.rx (0b0#1 ++ k)) = .ok .rxNone) ∧
    (∀ k : BitVec 2, decode (.rx (0b10#2 ++ k)) = .ok .rxOther) ∧
    (∀ k : BitVec 1, decode (.rx (0b110#3 ++ k)) = .ok .ctrlBadlen) ∧
    decode (.rx 0b1110) = .ok .ctrlBaden ∧ decode (.rx 0b1111) = .ok .ctrlOk := by decide

/-- No two rows of a map that selects one operation select the same key. -/
theorem test_rows_disjoint :
    (∀ k, (selRows.filter fun r => r.selects k).length ≤ 1) ∧ ∀ k, (rxRows.filter fun r => r.selects k).length = 1 := by
  decide

/-- `TICK                 ; c1` and `RESET` (P1, P4). -/
theorem test_decode_tick_reset :
    decodeLine [0x54, 0x49, 0x43, 0x4B, 0x20, 0x20, 0x3B, 0x20, 0x63, 0x31] = .ok .tick ∧
    decodeLine [0x52, 0x45, 0x53, 0x45, 0x54] = .ok .reset := by decide

/-- `SENSE 120, 10` and `STEP 0,50` (P1, Y9). -/
theorem test_decode_sense_step :
    decodeLine [0x53, 0x45, 0x4E, 0x53, 0x45, 0x20, 0x31, 0x32, 0x30, 0x2C, 0x20, 0x31, 0x30] = .ok (.sense 120 10) ∧
    decodeLine [0x53, 0x54, 0x45, 0x50, 0x20, 0x30, 0x2C, 0x35, 0x30] = .ok (.step 0 50) := by decide

/-- `RXQ 0x201, [0x03, 0xE8]` (P2). -/
theorem test_decode_rxq :
    decodeLine [0x52, 0x58, 0x51, 0x20, 0x30, 0x78, 0x32, 0x30, 0x31, 0x2C, 0x20, 0x5B, 0x30, 0x78, 0x30, 0x33, 0x2C,
      0x20, 0x30, 0x78, 0x45, 0x38, 0x5D] = .ok (.rxq 0x201 [0x03, 0xE8]) := by decide

/-- `CTRL 120, 50, 2` and `BOOT 10` (P2). -/
theorem test_decode_ctrl_boot :
    decodeLine [0x43, 0x54, 0x52, 0x4C, 0x20, 0x31, 0x32, 0x30, 0x2C, 0x20, 0x35, 0x30, 0x2C, 0x20, 0x32] =
      .ok (.ctrl 120 50 2) ∧
    decodeLine [0x42, 0x4F, 0x4F, 0x54, 0x20, 0x31, 0x30] = .ok (.boot 10) := by decide

/-- `CONFIG MIN_CURRENT=10, ID_WIDTH=29` (R82). -/
theorem test_decode_config :
    decodeLine ([0x43, 0x4F, 0x4E, 0x46, 0x49, 0x47, 0x20] ++
      [0x4D, 0x49, 0x4E, 0x5F, 0x43, 0x55, 0x52, 0x52, 0x45, 0x4E, 0x54, 0x3D, 0x31, 0x30, 0x2C, 0x20] ++
      [0x49, 0x44, 0x5F, 0x57, 0x49, 0x44, 0x54, 0x48, 0x3D, 0x32, 0x39]) =
      .ok (.config { minCurrent := some 10, idWidth := some 29 }) := by decide

/-- `TICKS`, `TICK 1`, `BOOT 65536`, `CTRL 1,1,256`, an empty line, `BOOT 0xG`. -/
theorem test_decode_errors :
    decodeLine [0x54, 0x49, 0x43, 0x4B, 0x53] = .error .unknownKeyword ∧
    decodeLine [0x54, 0x49, 0x43, 0x4B, 0x20, 0x31] = .error .badOperands ∧
    decodeLine [0x42, 0x4F, 0x4F, 0x54, 0x20, 0x36, 0x35, 0x35, 0x33, 0x36] = .error .outOfRange ∧
    decodeLine [0x43, 0x54, 0x52, 0x4C, 0x20, 0x31, 0x2C, 0x31, 0x2C, 0x32, 0x35, 0x36] = .error .outOfRange ∧
    decodeLine [] = .error .blankLine ∧
    decodeLine [0x42, 0x4F, 0x4F, 0x54, 0x20, 0x30, 0x78, 0x47] = .error .badNumber := by decide

/-- An encoded line decodes to its instruction. -/
theorem test_encode_rxq : decode (encode (.rxq 0x201 [0x00, 0x78, 0x00, 0x32, 0x01])) =
    .ok (.rxq 0x201 [0x00, 0x78, 0x00, 0x32, 0x01]) := by decide

/-- Table words: a sel value, an rx value, the empty pattern, and `TICK` as bytes. -/
theorem test_table_words :
    decodeTableWord 4 0b1001 = some .iloopCc ∧ decodeTableWord 4 0b1111 = some .ctrlOk ∧
    decodeTableWord 0 0 = some .encHeartbeat ∧ decodeTableWord 32 0x4B434954 = some .tick := by decide

/-! ### Advance (vectors A2, A7, A5, A8, A12, A11, A17, A18, A19) -/

theorem test_advance_idle_enabled :
    ends (exec .advanceIdle (charging OpState.idle NetState.init 0 0)) OpState.constantCurrent NetState.preOperate
      ActionKind.setCurrent true [] = true := by decide

theorem test_advance_idle_disabled :
    ends (exec .advanceIdle booted) OpState.idle NetState.preOperate ActionKind.stopAll false [] = true := by decide

theorem test_advance_cc_equality :
    ends (exec .advanceCc (charging OpState.constantCurrent NetState.preOperate 120 0)) OpState.constantVoltage
      NetState.operate ActionKind.setCurrent true [] = true := by decide

theorem test_advance_cc_unsigned :
    ends (exec .advanceCc { charging OpState.constantCurrent NetState.operate 0xFFFE 0 with
      regs := { (charging OpState.constantCurrent NetState.operate 0xFFFE 0).regs with setpointVoltage := 0xFFFF } })
      OpState.constantCurrent NetState.operate ActionKind.setCurrent true [] = true := by decide

theorem test_advance_cv_ends_charge :
    ends (exec .advanceCv (charging OpState.constantVoltage NetState.operate 120 10)) OpState.idle NetState.operate
      ActionKind.setCurrent false [] = true := by decide

theorem test_advance_cv_goes_on :
    ends (exec .advanceCv (charging OpState.constantVoltage NetState.operate 120 11)) OpState.constantVoltage
      NetState.operate ActionKind.setCurrent true [] = true := by decide

theorem test_advance_invalid :
    ends (exec .advanceInvalid (charging OpState.invalid NetState.operate 0 0)) OpState.invalid NetState.operate
      ActionKind.setCurrent true [.report (.invalidStateAdvance 0b11)] = true := by decide

theorem test_advance_unwritten :
    faultIs (exec .advanceCc booted) (.feedbackUnwritten .voltage .r102) = true ∧
    faultIs (exec .advanceCv booted) (.feedbackUnwritten .current .r103) = true := by decide

/-! ### Regulation (G1, G7 to G9, G2 to G4, G10 to G13) -/

theorem test_loops_idle :
    ends (exec .vloopIdle (charging OpState.idle NetState.init 0 0)) OpState.idle NetState.init ActionKind.stopAll true
      [.act .stopAll] = true ∧
    ends (exec .iloopIdle (charging OpState.idle NetState.init 0 0)) OpState.idle NetState.init ActionKind.stopAll true
      [.act .stopAll] = true := by decide

theorem test_loops_silent :
    ends (exec .vloopCc (charging OpState.constantCurrent NetState.operate 0 50)) OpState.constantCurrent
      NetState.operate ActionKind.setCurrent true [] = true ∧
    ends (exec .iloopCv (charging OpState.constantVoltage NetState.operate 120 0)) OpState.constantVoltage
      NetState.operate ActionKind.setCurrent true [] = true := by decide

theorem test_vloop_cv_above :
    ends (exec .vloopCv (charging OpState.constantVoltage NetState.operate 121 0)) OpState.constantVoltage
      NetState.operate ActionKind.setVoltage true [.act (.setVoltage 120)] = true := by decide

theorem test_vloop_cv_equal :
    ends (exec .vloopCv (charging OpState.constantVoltage NetState.operate 120 0)) OpState.constantVoltage
      NetState.operate ActionKind.setCurrent true [] = true := by decide

theorem test_iloop_cc_below :
    ends (exec .iloopCc (charging OpState.constantCurrent NetState.operate 0 0)) OpState.constantCurrent
      NetState.operate ActionKind.setCurrent true [.act (.setCurrent 50)] = true := by decide

theorem test_iloop_cc_unwritten :
    faultIs (exec .iloopCc booted) (.feedbackUnwritten .current .r125) = true ∧
    faultIs (exec .vloopCv booted) (.feedbackUnwritten .voltage .r123) = true := by decide

theorem test_regulate_invalid :
    ends (exec .regulateInvalid (charging OpState.invalid NetState.operate 0 0)) OpState.invalid NetState.operate
      ActionKind.setCurrent true [.report (.invalidStateRegulate 0b11)] = true := by decide

/-- The actuation port (R77): G1, G2, G8. -/
theorem test_port :
    Command.port .stopAll = (0b00, 0) ∧ Command.port (.setCurrent 50) = (0b10, 50) ∧
    Command.port (.setVoltage 120) = (0b01, 120) := by decide

/-! ### Outbound codec (H1, H2, H6, H7, H8) -/

theorem test_heartbeat :
    nextIs (exec .encHeartbeat booted) (fun t => decide (t.trace = [.tx ⟨0x701, [0x00]⟩])) = true ∧
    nextIs (exec .encHeartbeat (charging OpState.idle NetState.preOperate 0 0))
      (fun t => decide (t.trace = [.tx ⟨0x701, [0x01]⟩])) = true := by decide

theorem test_status_bytes :
    nextIs (exec .encStatus (charging OpState.constantVoltage NetState.operate 0x1234 0xABCD))
      (fun t => decide (t.trace = [.tx ⟨0x181, [0x12, 0x34, 0xAB, 0xCD]⟩])) = true := by decide

theorem test_status_gate :
    nextIs (exec .encStatus booted) (fun t => decide (t = booted)) = true ∧
    faultIs (exec .encStatus { booted with regs := { booted.regs with netState := NetState.operate } })
      (.feedbackUnwritten .voltage .r142) = true := by decide

/-! ### Inbound codec (D1, D2, D4, D5, D8, D9, D10, D11) -/

theorem test_rx_ignored :
    decoded (exec .rxNone booted) 0 0 false [] = true ∧
    decoded (exec .rxOther (answered ⟨0x181, [0x00, 0x78, 0x00, 0x32, 0x01]⟩)) 0 0 false [] = true := by decide

theorem test_ctrl_badlen :
    decoded (exec .ctrlBadlen (answered ⟨0x201, [0x00, 0x78, 0x00, 0x32]⟩)) 0 0 false
      [.report (.invalidLength ⟨0x201, [0x00, 0x78, 0x00, 0x32]⟩)] = true := by decide

theorem test_ctrl_baden :
    decoded (exec .ctrlBaden (answered ⟨0x201, [0x00, 0x78, 0x00, 0x32, 0x02]⟩)) 0 0 false
      [.report (.invalidEnableValue ⟨0x201, [0x00, 0x78, 0x00, 0x32, 0x02]⟩)] = true := by decide

theorem test_ctrl_ok_eight_bytes :
    decoded (exec .ctrlOk (answered ⟨0x201, [0xFF, 0xFF, 0x00, 0x00, 0x01, 0x12, 0x34, 0x56]⟩)) 0xFFFF 0 true [] =
      true := by decide

theorem test_ctrl_ok_order :
    decoded (exec .ctrlOk (answered ⟨0x201, [0x00, 0x01, 0x00, 0x02, 0x00, 0xFF]⟩)) 1 2 false [] = true := by decide

/-- The classes, by the ordered tests: D3, D12, D6. -/
theorem test_rx_classes :
    decode (.rx (rxKey Config.example11 (some ⟨0x202, [0x00, 0x78, 0x00, 0x32, 0x01]⟩))) = .ok .rxOther ∧
    decode (.rx (rxKey Config.example11 (some ⟨0x201, [0x00, 0x78, 0x02]⟩))) = .ok .ctrlBadlen ∧
    decode (.rx (rxKey Config.example11 (some ⟨0x201, [0x00, 0x78, 0x00, 0x32, 0x01]⟩))) = .ok .ctrlOk := by decide

/-- The codes of the reports (R201). -/
theorem test_report_codes :
    Report.code (.invalidEnableValue ⟨0, []⟩) = 1 ∧ Report.code (.invalidLength ⟨0, []⟩) = 2 ∧
    Report.code (.invalidStateAdvance 3) = 3 ∧ Report.code (.invalidStateRegulate 3) = 4 := by decide

/-! ### Cycle and host -/

/-- E3, cycle 2: 120 crosses, and no voltage command on equality. -/
theorem test_tick_scenario :
    ends (exec .tick (charging OpState.constantCurrent NetState.preOperate 120 0)) OpState.constantVoltage
      NetState.operate ActionKind.setCurrent true
      [.tx ⟨0x701, [0x02]⟩, .tx ⟨0x181, [0x00, 0x78, 0x00, 0x00]⟩, .rxPoll none] = true := by decide

/-- Y8: the most reports a cycle can raise. -/
theorem test_tick_reports :
    ends (exec .tick { charging OpState.invalid NetState.operate 1 2 with rxQueue := [⟨0x201, [0, 1, 0, 2, 9]⟩] })
      OpState.invalid NetState.operate ActionKind.setCurrent true
      [.report (.invalidStateAdvance 3), .report (.invalidStateRegulate 3), .tx ⟨0x701, [0x02]⟩,
       .tx ⟨0x181, [0x00, 0x01, 0x00, 0x02]⟩, .rxPoll (some ⟨0x201, [0, 1, 0, 2, 9]⟩),
       .report (.invalidEnableValue ⟨0x201, [0, 1, 0, 2, 9]⟩)] = true := by decide

theorem test_sense :
    nextIs (exec (.sense 120 10) booted) (fun t => decide (t.regs.feedbackVoltage = 120 ∧ t.regs.feedbackCurrent = 10 ∧
      t.regs.feedbackVoltageWritten = true ∧ t.regs.feedbackCurrentWritten = true)) = true := by decide

/-- D13's identifier does not fit 11 bits (R207). -/
theorem test_rxq :
    nextIs (exec (.rxq 0x181 [1, 2]) { booted with rxQueue := [⟨5, []⟩] })
      (fun t => decide (t.rxQueue = [⟨5, []⟩, ⟨0x181, [1, 2]⟩])) = true ∧
    refusalIs (exec (.rxq 0x10000201 []) booted) .frameIdTooWide = true := by decide

theorem test_config :
    nextIs (exec (.config { minCurrent := some 7, hbCode := some (0x00, 0x7F, 0x05) }) { booted with stage := .fresh })
      (fun t => decide (t.cfg.minCurrent = 7 ∧ t.cfg.hbPreOperate = 0x7F ∧ t.cfg.controlId = 0x201)) = true ∧
    refusalIs (exec (.config { statusId := some 0x201 }) { booted with stage := .fresh })
      (.configIllegal .identifiersNotDistinct) = true := by decide

/-- Y1. -/
theorem test_reset :
    nextIs (exec .reset (charging OpState.invalid NetState.operate 10 20))
      (fun t => decide (t.regs = Regs.reset Config.example11 ∧ t.trace = [] ∧ t.phase = .sm)) = true := by decide

/-- E1's frame. -/
theorem test_ctrl :
    nextIs (exec (.ctrl 120 50 1) booted) (fun t => decide (t.rxQueue = [⟨0x201, [0x00, 0x78, 0x00, 0x32, 0x01]⟩])) =
      true := by decide

/-- Y9's second cycle. -/
theorem test_step :
    ends (exec (.step 0 50) (charging OpState.constantCurrent NetState.operate 9 9)) OpState.constantCurrent
      NetState.operate ActionKind.setCurrent true
      [.tx ⟨0x701, [0x02]⟩, .tx ⟨0x181, [0x00, 0x00, 0x00, 0x32]⟩, .rxPoll none] = true := by decide

theorem test_boot :
    nextIs (exec (.boot 77) { booted with stage := .fresh })
      (fun t => decide (t.regs.minCurrent = 77 ∧ t.cfg.minCurrent = 77 ∧ t.stage = .running)) = true := by decide

/-! ### step and withFetchWord -/

/-- The step runs the script's next line, here `TICK`: Y2. -/
theorem test_step_script :
    ends (Machine.step { booted with script := [[0x54, 0x49, 0x43, 0x4B]] }) OpState.idle NetState.preOperate
      ActionKind.stopAll false [.act .stopAll, .act .stopAll, .tx ⟨0x701, [0x01]⟩, .rxPoll none] = true := by decide

/-- R207: under an illegal configuration there is no step, not even for `SENSE 1,1` or RESET's line. -/
theorem test_step_illegal_config :
    let s := { booted with cfg := { Config.example11 with statusId := 0x201 } }
    refusalIs (Machine.step { s with script := [[0x53, 0x45, 0x4E, 0x53, 0x45, 0x20, 0x31, 0x2C, 0x31]] })
      (.configIllegal .identifiersNotDistinct) = true ∧
    refusalIs (Machine.step { s with script := [kwReset] }) (.configIllegal .identifiersNotDistinct) = true ∧
    refusalIs (Machine.step { s with slot := .heartbeat }) (.configIllegal .identifiersNotDistinct) = true := by decide

/-- Placed table words: VLOOP.IDLE, CTRL_BADEN, and TICK's bytes, each run by the very next step. -/
theorem test_fetch_word :
    nextIs (Machine.step (booted.withFetchWord 4 0b0100)) (fun t => decide (t.trace = [.act .stopAll])) = true ∧
    nextIs (Machine.step (booted.withFetchWord 4 0b1110))
      (fun t => decide (t.trace.getLast? = some (.report (.invalidEnableValue ⟨0x201, [0, 0, 0, 0, 2]⟩)))) = true ∧
    nextIs (Machine.step (booted.withFetchWord 32 0x4B434954)) (fun t => decide (t.history.length = 1)) = true := by
  decide

/-! ### Witnesses: inputs that meet the hypotheses of each obligation, clause by clause -/

theorem booted_ready : booted.Ready := ⟨rfl, by decide, by decide, by decide⟩

theorem charging_ready (op net : BitVec 2) (v i : Word) (h : net ≠ NetState.unused) : (charging op net v i).Ready :=
  ⟨rfl, by simp [charging, booted], by simp only [charging]; decide, h⟩

theorem charging_fits (op net : BitVec 2) (v i : Word) : (charging op net v i).AnswerFits := by
  intro f hf
  simp [State.answer, charging, booted] at hf

/-- DecodeEncodeRoundTrip: the longest frame with the widest identifier, and a CONFIG with every parameter. -/
theorem witness_DecodeEncodeRoundTrip :
    (Instr.rxq (2 ^ 29 - 1) [0, 1, 2, 3, 4, 5, 6, 0xFF]).wellFormed = true ∧
    (Instr.config ⟨some 0xFFFF, some 0, some (2 ^ 29 - 1), some 1, some 11, some (0, 0xFF, 1)⟩).wellFormed = true :=
  ⟨by decide, by decide⟩

/-- AdvanceCcEffect, VoltageLoopEffect: feedback at the setpoint and beside it, and unwritten. -/
theorem witness_voltage_written :
    (charging OpState.constantCurrent NetState.operate 120 0).regs.feedbackVoltageWritten = true ∧
    (charging OpState.constantCurrent NetState.operate 119 0).regs.feedbackVoltageWritten = true ∧
    booted.regs.feedbackVoltageWritten = false := ⟨rfl, rfl, rfl⟩

/-- AdvanceCvEffect, CurrentLoopEffect: feedback at the limit and beside it, and unwritten. -/
theorem witness_current_written :
    (charging OpState.constantVoltage NetState.operate 120 10).regs.feedbackCurrentWritten = true ∧
    (charging OpState.constantVoltage NetState.operate 120 11).regs.feedbackCurrentWritten = true ∧
    booted.regs.feedbackCurrentWritten = false := ⟨rfl, rfl, rfl⟩

/-- HeartbeatFrameSent: each of the three network states. -/
theorem witness_HeartbeatFrameSent :
    (charging OpState.idle NetState.init 0 0).regs.netState = NetState.init ∧
    (charging OpState.idle NetState.preOperate 0 0).regs.netState = NetState.preOperate ∧
    (charging OpState.idle NetState.operate 0 0).regs.netState = NetState.operate := ⟨rfl, rfl, rfl⟩

/-- StatusFrameSent: sent, and not sent (its two faulting clauses: witness_UnwrittenReadsFault). -/
theorem witness_StatusFrameSent :
    ((charging OpState.idle NetState.operate 0 0).regs.netState = NetState.operate ∧
      (charging OpState.idle NetState.operate 0 0).regs.feedbackVoltageWritten = true ∧
      (charging OpState.idle NetState.operate 0 0).regs.feedbackCurrentWritten = true) ∧
    booted.regs.netState ≠ NetState.operate := ⟨⟨rfl, rfl, rfl⟩, by decide⟩

/-- RejectedFramesReportOnly. -/
theorem witness_RejectedFramesReportOnly : (answered ⟨0x201, []⟩).rxAnswer = some ⟨0x201, []⟩ := rfl

/-- ControlUpdateApplied: five bytes with enable 0, eight with enable 1. -/
theorem witness_ControlUpdateApplied :
    (answered ⟨0x201, [0, 1, 0, 2, 0]⟩).rxAnswer = some ⟨0x201, 0 :: 1 :: 0 :: 2 :: 0 :: []⟩ ∧
    (answered ⟨0x201, [0, 1, 0, 2, 1, 7, 8, 9]⟩).rxAnswer = some ⟨0x201, 0 :: 1 :: 0 :: 2 :: 1 :: [7, 8, 9]⟩ ∧
    ((0 : Byte) = 0 ∨ (0 : Byte) = 1) ∧ ((1 : Byte) = 0 ∨ (1 : Byte) = 1) := by decide

/-- ClassWithoutItsFrameIsRefused: no frame, a frame of four bytes, an enable byte of 2. -/
theorem witness_ClassWithoutItsFrameIsRefused :
    booted.rxAnswer = none ∧
    ((answered ⟨0x201, [0, 1, 0, 2]⟩).rxAnswer = some ⟨0x201, [0, 1, 0, 2]⟩ ∧
      ¬(([0, 1, 0, 2] : List Byte)[4]? = some 0 ∨ ([0, 1, 0, 2] : List Byte)[4]? = some 1)) ∧
    ((answered ⟨0x201, [0, 1, 0, 2, 2]⟩).rxAnswer = some ⟨0x201, [0, 1, 0, 2, 2]⟩ ∧
      ¬(([0, 1, 0, 2, 2] : List Byte)[4]? = some 0 ∨ ([0, 1, 0, 2, 2] : List Byte)[4]? = some 1)) := by decide

/-- SenseWritesFeedback, ResetRestoresRegisters, ResetKeepsHostSide. -/
theorem witness_between : booted.slot = .between ∧ ∃ t, exec .reset booted = .next t := ⟨rfl, _, rfl⟩

/-- RxqQueuesFrame, CtrlQueuesControlFrame: eight bytes and the widest identifier of 11 bits. -/
theorem witness_RxqQueuesFrame :
    booted.slot = .between ∧ [0, 1, 2, 3, 4, 5, 6, (7 : Byte)].length ≤ 8 ∧ 2 ^ 11 - 1 < 2 ^ booted.cfg.idWidth ∧
    booted.cfg.controlId < 2 ^ booted.cfg.idWidth := by decide

/-- ConfigFixesParameters, BootConfiguresAndResets: before RESET, also with every parameter given. -/
theorem witness_ConfigFixesParameters :
    let s := { booted with stage := .fresh }
    s.slot = .between ∧ s.stage ≠ .running ∧ configProblem (configured s.args {}) = none ∧
    configProblem (configured s.args ⟨some 1, some 1, some 2, some (2 ^ 29 - 1), some 29, some (0, 0x7F, 5)⟩) = none ∧
    configProblem s.args = none := by decide

/-- IllegalConfigRefused: each identifier too wide, each pair equal; after RESET; BOOT under illegal arguments. -/
theorem witness_IllegalConfigRefused :
    let s := { booted with stage := .fresh }
    s.slot = .between ∧ s.stage ≠ .running ∧
    ¬(configured s.args { heartbeatId := some (2 ^ 11) }).heartbeatId < 2 ^ 11 ∧
    ¬(configured s.args { statusId := some (2 ^ 11) }).statusId < 2 ^ 11 ∧
    ¬(configured s.args { controlId := some (2 ^ 11) }).controlId < 2 ^ 11 ∧
    (configured s.args { heartbeatId := some 0x181 }).heartbeatId = (configured s.args { heartbeatId := some 0x181 }).statusId ∧
    (configured s.args { heartbeatId := some 0x201 }).heartbeatId = (configured s.args { heartbeatId := some 0x201 }).controlId ∧
    (configured s.args { statusId := some 0x201 }).statusId = (configured s.args { statusId := some 0x201 }).controlId ∧
    booted.slot = .between ∧ booted.stage = .running ∧
    configProblem { s with args := { Config.example11 with statusId := 0x201 } }.args =
      some .identifiersNotDistinct := by decide

/-- StepSensesAndTicks: a just reset machine, and one with an unwritten feedback in ConstantCurrent. -/
theorem witness_StepSensesAndTicks : booted.Ready ∧ booted.AnswerFits := by
  refine ⟨booted_ready, fun f hf => ?_⟩
  simp [State.answer, booted] at hf

/-- HostOperationsRefusedInCycle: every host operation, in a cycle. -/
theorem witness_HostOperationsRefusedInCycle :
    (Instr.tick.isHostOp = true ∧ (Instr.sense 0 0).isHostOp = true ∧ (Instr.rxq 0 []).isHostOp = true ∧
      (Instr.config {}).isHostOp = true ∧ Instr.reset.isHostOp = true ∧ (Instr.ctrl 0 0 0).isHostOp = true ∧
      (Instr.step 0 0).isHostOp = true ∧ (Instr.boot 0).isHostOp = true) ∧
    { booted with slot := .advance }.slot ≠ .between := by decide

/-- TickEffect: every operating state. -/
theorem witness_TickEffect :
    ∀ op : BitVec 2, (charging op NetState.operate 120 10).Ready ∧
      firstUnwritten (charging op NetState.operate 120 10).regs = none ∧
      (charging op NetState.operate 120 10).AnswerFits :=
  fun op => ⟨charging_ready op _ _ _ (by decide), (by decide : ∀ op, firstUnwritten
    (charging op NetState.operate 120 10).regs = none) op, charging_fits op _ _ _⟩

/-- An unwritten machine in that state, with `enable` true. -/
def unsensed (op net : BitVec 2) : State :=
  { booted with regs := { booted.regs with opState := op, netState := net, enable := true } }

/-- TickFaultsAtFirstUnwrittenRead: each operating state; in the invalid one the network state must be Operate. -/
theorem witness_TickFaultsAtFirstUnwrittenRead :
    (∀ op, (unsensed op NetState.operate).Ready) ∧
    firstUnwritten (unsensed OpState.idle NetState.operate).regs = some (.feedbackUnwritten .current .r125) ∧
    firstUnwritten (unsensed OpState.constantCurrent NetState.operate).regs = some (.feedbackUnwritten .voltage .r102) ∧
    firstUnwritten (unsensed OpState.constantVoltage NetState.operate).regs = some (.feedbackUnwritten .current .r103) ∧
    firstUnwritten (unsensed OpState.invalid NetState.operate).regs = some (.feedbackUnwritten .voltage .r142) :=
  ⟨fun _ => ⟨rfl, by simp [unsensed, booted], by simp only [unsensed]; decide, by simp only [unsensed]; decide⟩,
    by decide, by decide, by decide, by decide⟩

/-- UnwrittenReadsFault: both registers unwritten; only the current unwritten, in Operate. -/
theorem witness_UnwrittenReadsFault :
    (unsensed OpState.idle NetState.operate).regs.feedbackVoltageWritten = false ∧
    (unsensed OpState.idle NetState.operate).regs.feedbackCurrentWritten = false ∧
    (unsensed OpState.idle NetState.operate).regs.netState = NetState.operate ∧
    (let r := { (unsensed OpState.idle NetState.operate).regs with feedbackVoltageWritten := true }
     r.feedbackCurrentWritten = false ∧ r.netState = NetState.operate ∧ r.feedbackVoltageWritten = true) := by decide

/-- TickIsItsOperationsInOrder: a state that completes and one that faults. -/
theorem witness_TickIsItsOperationsInOrder :
    (charging OpState.constantCurrent NetState.operate 120 0).Ready ∧
    (charging OpState.constantCurrent NetState.operate 120 0).regs.lastAction ≠ ActionKind.unused ∧
    booted.Ready ∧ booted.regs.lastAction ≠ ActionKind.unused :=
  ⟨charging_ready _ _ _ _ (by decide), by decide, booted_ready, by decide⟩

/-- FirstCycleAfterReset: no answer, and a control frame as the answer. -/
theorem witness_FirstCycleAfterReset :
    (booted.Ready ∧ booted.AnswerFits ∧
      ∃ v c, booted.regs = { Regs.reset booted.cfg with feedbackVoltage := v, feedbackCurrent := c }) ∧
    (let s := { booted with rxQueue := [⟨0x201, [0, 1, 0, 2, 1]⟩] }
     s.Ready ∧ s.AnswerFits ∧
      ∃ v c, s.regs = { Regs.reset s.cfg with feedbackVoltage := v, feedbackCurrent := c }) := by
  refine ⟨⟨booted_ready, witness_StepSensesAndTicks.2, 0, 0, rfl⟩, ⟨rfl, by decide, by decide, by decide⟩, ?_, 0, 0, rfl⟩
  intro f hf
  simp only [State.answer, List.head?_cons, Option.some.injEq] at hf
  subst hf
  decide

/-- TransitionGraph, NetworkStateFromEntryState, FramesOfEveryCycle, CycleBounds, LastActionIsLastCommand,
OneFramePerCycle, ControlUpdateAllOrNothing: a TICK completes in every operating state. -/
theorem witness_tick_completes :
    (∃ t, exec .tick (charging OpState.idle NetState.init 0 0) = .next t) ∧
    (∃ t, exec .tick (charging OpState.constantCurrent NetState.operate 120 0) = .next t) ∧
    (∃ t, exec .tick (charging OpState.constantVoltage NetState.operate 121 10) = .next t) ∧
    ∃ t, exec .tick (charging OpState.invalid NetState.init 0 0) = .next t := ⟨⟨_, rfl⟩, ⟨_, rfl⟩, ⟨_, rfl⟩, ⟨_, rfl⟩⟩

/-- InvalidStateAbsorbing. -/
theorem witness_InvalidStateAbsorbing :
    (charging OpState.invalid NetState.operate 1 2).regs.opState = OpState.invalid ∧
    ∃ t, exec .tick (charging OpState.invalid NetState.operate 1 2) = .next t := ⟨rfl, _, rfl⟩

/-- ControlUpdateAllOrNothing: a TICK that takes a whole update, and one at the end of a charge that takes none (D16's bad
enable byte). -/
theorem witness_ControlUpdateAllOrNothing :
    (∃ t, exec .tick { booted with rxQueue := [⟨0x201, [0, 120, 0, 50, 1]⟩] } = .next t ∧
      t.regs.setpointVoltage = 120 ∧ t.regs.enable = true) ∧
    ∃ t, exec .tick { charging OpState.constantVoltage NetState.operate 120 10 with
      rxQueue := [⟨0x201, [0, 7, 0, 8, 2]⟩] } = .next t ∧ t.regs.setpointVoltage = 120 ∧ t.regs.enable = false :=
  ⟨⟨_, rfl, by decide, by decide⟩, _, rfl, by decide, by decide⟩

/-- EnableRace: Y5 and Y6, equality of current and limit, both enable values. -/
theorem witness_EnableRace :
    (charging OpState.constantVoltage NetState.operate 120 10).regs.opState = OpState.constantVoltage ∧
    (charging OpState.constantVoltage NetState.operate 120 10).regs.feedbackCurrent.toNat ≤
      (charging OpState.constantVoltage NetState.operate 120 10).regs.minCurrent.toNat ∧
    (∃ t, exec .tick { charging OpState.constantVoltage NetState.operate 120 10 with
      rxQueue := [⟨0x201, 0 :: 120 :: 0 :: 50 :: (if true = true then 1 else 0) :: []⟩] } = .next t) ∧
    (∃ t, exec .tick { charging OpState.constantVoltage NetState.operate 120 10 with
      rxQueue := [⟨0x201, 0 :: 120 :: 0 :: 50 :: (if false = true then 1 else 0) :: []⟩] } = .next t) ∧
    ∃ t u, exec .tick { charging OpState.constantVoltage NetState.operate 120 10 with
      rxQueue := [⟨0x201, [0, 120, 0, 50, 1]⟩] } = .next t ∧ exec .tick t = .next u :=
  ⟨rfl, by decide, ⟨_, rfl⟩, ⟨_, rfl⟩, _, _, rfl, rfl⟩

/-- ControlFrameRoundTrip. -/
theorem witness_ControlFrameRoundTrip : booted.Ready ∧ booted.rxQueue = [] := ⟨booted_ready, rfl⟩

/-- AnswerDoesNotReachItsOwnCycle: no answer, and a control frame as the answer. -/
theorem witness_AnswerDoesNotReachItsOwnCycle :
    (∃ t, exec .tick (charging OpState.constantCurrent NetState.operate 0 0) = .next t) ∧
    ∃ t, exec .tick { charging OpState.constantCurrent NetState.operate 0 0 with
      rxQueue := [⟨0x201, [0, 120, 0, 60, 0]⟩] } = .next t := ⟨⟨_, rfl⟩, ⟨_, rfl⟩⟩

/-- DisableDoesNotStopCharge: `enable` true and false, in both states. -/
theorem witness_DisableDoesNotStopCharge :
    ∀ op ∈ [OpState.constantCurrent, OpState.constantVoltage],
      (op = OpState.constantCurrent ∨ op = OpState.constantVoltage) ∧
      nextIs (exec .tick (charging op NetState.operate 0 50)) (fun _ => true) = true ∧
      nextIs (exec .tick { charging op NetState.operate 0 50 with
        regs := { (charging op NetState.operate 0 50).regs with enable := false } }) (fun _ => true) = true := by decide

/-- RegisterWriters: an operation of each kind that writes, and one that does not. -/
theorem witness_RegisterWriters :
    (Instr.advanceCv.isHostOp = false ∧
      ∃ t, exec .advanceCv (charging OpState.constantVoltage NetState.operate 120 10) = .next t) ∧
    (Instr.ctrlOk.isHostOp = false ∧ ∃ t, exec .ctrlOk (answered ⟨0x201, [0, 1, 0, 2, 1]⟩) = .next t) ∧
    (Instr.vloopIdle.isHostOp = false ∧ ∃ t, exec .vloopIdle booted = .next t) ∧
    (Instr.encHeartbeat.isHostOp = false ∧ ∃ t, exec .encHeartbeat booted = .next t) :=
  ⟨⟨rfl, _, rfl⟩, ⟨rfl, _, rfl⟩, ⟨rfl, _, rfl⟩, ⟨rfl, _, rfl⟩⟩

/-- ParametersConstant: CONFIG, RESET, BOOT and another operation. -/
theorem witness_ParametersConstant :
    (∃ t, exec (.config {}) { booted with stage := .fresh } = .next t) ∧ (∃ t, exec .reset booted = .next t) ∧
    (∃ t, exec (.boot 3) { booted with stage := .fresh } = .next t) ∧ ∃ t, exec (.sense 1 2) booted = .next t :=
  ⟨⟨_, rfl⟩, ⟨_, rfl⟩, ⟨_, rfl⟩, ⟨_, rfl⟩⟩

/-- A booted machine whose script is that one line. -/
def scripted (l : List Byte) : State := { booted with script := [l] }

/-- ParametersConstantFromReset, InvalidStateNeverEntered, UnusedCodesNeverWritten: a TICK taken from the script. -/
theorem witness_step_completes :
    (scripted kwTick).stage = .running ∧ (scripted kwTick).regs.opState ≠ OpState.invalid ∧
    launchProblem (scripted kwTick) = none ∧ ∃ t, Machine.step (scripted kwTick) = .next t :=
  ⟨rfl, by decide, by decide, _, rfl⟩

/-- StepRunsNextScriptLine: a line, a comment, a line outside the syntax, no line. -/
theorem witness_StepRunsNextScriptLine :
    (scripted kwTick).slot = .between ∧ launchProblem (scripted kwTick) = none ∧ decodeLine kwTick = .ok .tick ∧
    (scripted [0x3B, 0x41]).slot = .between ∧ launchProblem (scripted [0x3B, 0x41]) = none ∧
    decodeLine [0x3B, 0x41] = .error .blankLine ∧
    (scripted [0x2C]).slot = .between ∧ launchProblem (scripted [0x2C]) = none ∧
    decodeLine [0x2C] = .error .unknownKeyword ∧ DecodeError.unknownKeyword ≠ .blankLine ∧
    booted.slot = .between ∧ launchProblem booted = none ∧ booted.script = [] := by decide

/-- StepRunsSelectedKey: each slot, with a key that selects an operation; REGULATE.INVALID and another in the loop slot. -/
theorem witness_StepRunsSelectedKey :
    (∀ x : Slot, launchProblem { booted with slot := x } = none) ∧
    decode (.sel (0b00#2 ++ booted.regs.opState)) = .ok .advanceIdle ∧
    decode (.sel (0b01#2 ++ booted.regs.opState)) = .ok .vloopIdle ∧
    decode (.sel (0b01#2 ++ OpState.invalid)) = .ok .regulateInvalid ∧
    decode (.sel (0b10#2 ++ booted.regs.opState)) = .ok .iloopIdle :=
  ⟨fun _ => rfl, by decide, by decide, by decide, by decide⟩

/-- StepPollsAndDecodes: no frame, and a control frame. -/
theorem witness_StepPollsAndDecodes :
    (let s := { booted with slot := .poll }
     s.slot = .poll ∧ launchProblem s = none ∧ s.AnswerFits ∧ decode (.rx (rxKey s.cfg s.answer)) = .ok .rxNone) ∧
    (let s := { booted with slot := .poll, rxQueue := [⟨0x201, [0, 1, 0, 2, 1]⟩] }
     s.slot = .poll ∧ launchProblem s = none ∧ s.AnswerFits ∧ decode (.rx (rxKey s.cfg s.answer)) = .ok .ctrlOk) := by
  refine ⟨⟨rfl, rfl, fun f hf => ?_, by decide⟩, rfl, rfl, fun f hf => ?_, by decide⟩
  · simp [State.answer, booted] at hf
  · simp only [State.answer, List.head?_cons, Option.some.injEq] at hf
    subst hf
    decide

/-- IllegalLaunchAndFramesRefused: each unused encoding, a frame of nine bytes, an identifier of 12 bits, an illegal
configuration. -/
theorem witness_IllegalLaunchAndFramesRefused :
    (charging OpState.idle NetState.unused 0 0).regs.netState = NetState.unused ∧
    { booted.regs with lastAction := ActionKind.unused }.lastAction = ActionKind.unused ∧
    (let s := { booted with slot := .poll, rxQueue := [⟨1, [0, 1, 2, 3, 4, 5, 6, 7, 8]⟩] }
     s.slot = .poll ∧ s.answer = some ⟨1, [0, 1, 2, 3, 4, 5, 6, 7, 8]⟩) ∧
    configProblem { booted with cfg := { Config.example11 with controlId := 2 ^ 11 } }.cfg ≠ none ∧
    8 < [0, 1, 2, 3, 4, 5, 6, 7, (8 : Byte)].length ∧ 2 ^ booted.cfg.idWidth ≤ 2 ^ 11 ∧ booted.slot = .between ∧
    booted.stage ≠ .configured ∧
    configProblem { Config.example11 with statusId := 0x201 } = some .identifiersNotDistinct := by decide

/-- IllegalLaunchAndFramesRefused: a launch state with `op_state = 0b11`. -/
theorem witness_invalid_launch :
    (charging OpState.invalid NetState.preOperate 0 0).Ready ∧
    (charging OpState.invalid NetState.preOperate 0 0).regs.opState = OpState.invalid ∧
    (charging OpState.invalid NetState.preOperate 0 0).regs.netState ≠ NetState.operate ∧
    (charging OpState.invalid NetState.preOperate 0 0).AnswerFits :=
  ⟨charging_ready _ _ _ _ (by decide), rfl, by decide, charging_fits _ _ _ _⟩

/-- TickBeforeResetFaults. -/
theorem witness_TickBeforeResetFaults :
    { booted with stage := .configured }.slot = .between ∧ { booted with stage := .configured }.stage = .configured :=
  ⟨rfl, rfl⟩

/-- StepKeepsInv: a state with a frame queued and a TICK to run. -/
theorem witness_StepKeepsInv :
    let s := { scripted kwTick with rxQueue := [⟨0x201, [0, 1, 0, 2, 1]⟩] }
    s.Inv ∧ ∃ t, Machine.step s = .next t := by
  refine ⟨⟨rfl, by decide, by decide, by decide, by decide, fun _ => rfl, rfl, ?_⟩, _, rfl⟩
  intro f hf
  simp only [List.mem_singleton] at hf
  subst hf
  decide

end Sys2Proof.Tests
end

section
/-! Byte packing (R10): each byte of a word is read back from the word that packs it, and a word is packed from its own
two bytes. -/

namespace Sys2Proof.Machine

@[simp] theorem be16_hi8_lo8 (v : Word) : be16 (hi8 v) (lo8 v) = v := by
  rw [be16_eq_append]
  exact BitVec.extractLsb'_append_extractLsb' (w := 8) (len := 8)

@[simp] theorem hi8_be16 (b0 b1 : Byte) : hi8 (be16 b0 b1) = b0 := by
  rw [be16_eq_append]
  exact BitVec.extractLsb'_append_eq_left

@[simp] theorem lo8_be16 (b0 b1 : Byte) : lo8 (be16 b0 b1) = b1 := by
  rw [be16_eq_append]
  exact BitVec.extractLsb'_append_eq_right

/-- Settles O4: `hi8`, `lo8` and `be16` are defined as R10 says, and the inverses hold because `be16` concatenates its
bytes. -/
theorem bytePackingInverse : Obligations.BytePackingInverse :=
  ⟨fun _ => ⟨rfl, rfl⟩, fun _ _ => rfl, be16_hi8_lo8, fun b0 b1 => ⟨hi8_be16 b0 b1, lo8_be16 b0 b1⟩⟩

end Sys2Proof.Machine
end

section
/-! What one operation can do, once: an operation inside a cycle writes in one of five ways, a host operation as its rule
says. The statements on registers and invariants are case analyses over these two relations. -/

namespace Sys2Proof.Machine

/-! ### The operations inside a cycle that may stop -/

/-- R102, R206. -/
theorem execAdvanceCc_eq_next {s t : State} :
    execAdvanceCc s = .next t ↔ s.regs.feedbackVoltageWritten = true ∧
      t = (s.setNetState NetState.operate).setOpState
        (if atLeast s.regs.feedbackVoltage s.regs.setpointVoltage then OpState.constantVoltage
         else OpState.constantCurrent) := by
  cases hw : s.regs.feedbackVoltageWritten with
  | false => simp [execAdvanceCc, readFeedbackVoltage_of_unwritten hw]
  | true => simp [execAdvanceCc, readFeedbackVoltage_of_written hw, eq_comm (a := t)]

/-- R103, R206. -/
theorem execAdvanceCv_eq_next {s t : State} :
    execAdvanceCv s = .next t ↔ s.regs.feedbackCurrentWritten = true ∧
      t = if atMost s.regs.feedbackCurrent s.regs.minCurrent then (s.setNetState NetState.operate).endCharge
        else (s.setNetState NetState.operate).setOpState OpState.constantVoltage := by
  cases hw : s.regs.feedbackCurrentWritten with
  | false => simp [execAdvanceCv, readFeedbackCurrent_of_unwritten hw]
  | true => simp [execAdvanceCv, readFeedbackCurrent_of_written hw, eq_comm (a := t)]

/-- R123, R206. -/
theorem execVloopCv_eq_next {s t : State} :
    execVloopCv s = .next t ↔ s.regs.feedbackVoltageWritten = true ∧
      t = if differs s.regs.feedbackVoltage s.regs.setpointVoltage then s.issue (.setVoltage s.regs.setpointVoltage)
        else s := by
  cases hw : s.regs.feedbackVoltageWritten with
  | false => simp [execVloopCv, readFeedbackVoltage_of_unwritten hw]
  | true => simp [execVloopCv, readFeedbackVoltage_of_written hw, eq_comm (a := t)]

/-- R125, R206. -/
theorem execIloopCc_eq_next {s t : State} :
    execIloopCc s = .next t ↔ s.regs.feedbackCurrentWritten = true ∧
      t = if differs s.regs.feedbackCurrent s.regs.setpointCurrent then s.issue (.setCurrent s.regs.setpointCurrent)
        else s := by
  cases hw : s.regs.feedbackCurrentWritten with
  | false => simp [execIloopCc, readFeedbackCurrent_of_unwritten hw]
  | true => simp [execIloopCc, readFeedbackCurrent_of_written hw, eq_comm (a := t)]

/-- R140, R207. -/
theorem execEncHeartbeat_eq_next {s t : State} :
    execEncHeartbeat s = .next t ↔
      ∃ c, hbCode s.cfg s.regs.netState = some c ∧ t = s.tx (heartbeatFrame s.cfg c) := by
  unfold execEncHeartbeat
  cases hbCode s.cfg s.regs.netState <;> simp [eq_comm (a := t)]

/-- R142, R206. -/
theorem execEncStatus_eq_next {s t : State} :
    execEncStatus s = .next t ↔
      s.regs.netState = NetState.operate ∧ s.regs.feedbackVoltageWritten = true ∧
          s.regs.feedbackCurrentWritten = true ∧
          t = s.tx (statusFrame s.cfg s.regs.feedbackVoltage s.regs.feedbackCurrent) ∨
        s.regs.netState ≠ NetState.operate ∧ t = s := by
  by_cases hn : s.regs.netState = NetState.operate
  · cases hv : s.regs.feedbackVoltageWritten with
    | false => simp [execEncStatus_of_voltage_unwritten hn hv, hn]
    | true =>
      cases hi : s.regs.feedbackCurrentWritten with
      | false => simp [execEncStatus_of_current_unwritten hn hv hi, hn]
      | true => simp [execEncStatus_of_operate hn hv hi, hn, eq_comm (a := t)]
  · simp [execEncStatus_of_not_operate hn, hn, eq_comm (a := t)]

/-- R164. -/
theorem execCtrlBadlen_eq_next {s t : State} :
    execCtrlBadlen s = .next t ↔
      ∃ f, s.rxAnswer = some f ∧ t = (s.report (.invalidLength f)).setRxAnswer none := by
  unfold execCtrlBadlen
  cases s.rxAnswer <;> simp [eq_comm (a := t)]

/-- R165. -/
theorem execCtrlBaden_eq_next {s t : State} :
    execCtrlBaden s = .next t ↔
      ∃ f, s.rxAnswer = some f ∧ t = (s.report (.invalidEnableValue f)).setRxAnswer none := by
  unfold execCtrlBaden
  cases s.rxAnswer <;> simp [eq_comm (a := t)]

/-- R166: what CTRL_OK leaves is one control update, and the answer is gone. -/
theorem execCtrlOk_next {s t : State} (h : execCtrlOk s = .next t) :
    ∃ v c e, t = (s.applyControl v c e).setRxAnswer none := by
  unfold execCtrlOk at h
  repeat' split at h
  all_goals cases h
  exact ⟨_, _, _, rfl⟩

/-! ### What an operation inside a cycle writes (R22) -/

/-- The ways in which an operation inside a cycle leaves `s`, with the operations that write so (R22). -/
inductive InsideEffect (s : State) : Instr → State → Prop where
  /-- ADVANCE in a valid state: `net_state` and `op_state`, neither with the encoding that names no state. -/
  | advance {i : Instr} (n o : BitVec 2) (hi : i ∈ [Instr.advanceIdle, .advanceCc, .advanceCv])
      (hn : n ≠ NetState.unused) (ho : o ≠ OpState.invalid) :
      InsideEffect s i ((s.setNetState n).setOpState o)
  /-- ADVANCE.CV at the end of the charge: `enable` is cleared with it. -/
  | endCharge : InsideEffect s .advanceCv (s.setNetState NetState.operate).endCharge
  /-- A loop that commands: `last_action`. -/
  | command {i : Instr} (c : Command) (hi : i ∈ [Instr.vloopIdle, .vloopCv, .iloopIdle, .iloopCc]) :
      InsideEffect s i (s.issue c)
  /-- CTRL_OK: the setpoints and `enable`. -/
  | control (v c : Word) (e : Bool) : InsideEffect s .ctrlOk ((s.applyControl v c e).setRxAnswer none)
  /-- No register: only events and the poll's answer. -/
  | silent {i : Instr} (a : Option Frame) (evs : List Event) : InsideEffect s i { s with rxAnswer := a, trace := evs }

/-- Every operation inside a cycle that answers a next state writes in one of these ways. -/
theorem exec_insideEffect {i : Instr} {s t : State} (hi : i.isHostOp = false) (h : exec i s = .next t) :
    InsideEffect s i t := by
  cases i with
  | advanceIdle =>
    cases h
    exact .advance _ _ (by decide) (by decide) (by split <;> decide)
  | advanceCc =>
    obtain ⟨-, rfl⟩ := execAdvanceCc_eq_next.1 h
    exact .advance _ _ (by decide) (by decide) (by split <;> decide)
  | advanceCv =>
    obtain ⟨-, rfl⟩ := execAdvanceCv_eq_next.1 h
    split
    · exact .endCharge
    · exact .advance _ _ (by decide) (by decide) (by decide)
  | advanceInvalid => cases h; exact .silent _ _
  | vloopIdle => cases h; exact .command _ (by decide)
  | vloopCc => cases h; exact .silent _ _
  | vloopCv =>
    obtain ⟨-, rfl⟩ := execVloopCv_eq_next.1 h
    split
    · exact .command _ (by decide)
    · exact .silent _ _
  | regulateInvalid => cases h; exact .silent _ _
  | iloopIdle => cases h; exact .command _ (by decide)
  | iloopCc =>
    obtain ⟨-, rfl⟩ := execIloopCc_eq_next.1 h
    split
    · exact .command _ (by decide)
    · exact .silent _ _
  | iloopCv => cases h; exact .silent _ _
  | encHeartbeat =>
    obtain ⟨c, -, rfl⟩ := execEncHeartbeat_eq_next.1 h
    exact .silent _ _
  | encStatus =>
    obtain ⟨-, -, -, rfl⟩ | ⟨-, rfl⟩ := execEncStatus_eq_next.1 h
    · exact .silent _ _
    · exact .silent _ _
  | rxNone => cases h; exact .silent _ _
  | rxOther => cases h; exact .silent _ _
  | ctrlBadlen =>
    obtain ⟨f, -, rfl⟩ := execCtrlBadlen_eq_next.1 h
    exact .silent _ _
  | ctrlBaden =>
    obtain ⟨f, -, rfl⟩ := execCtrlBaden_eq_next.1 h
    exact .silent _ _
  | ctrlOk =>
    obtain ⟨v, c, e, rfl⟩ := execCtrlOk_next h
    exact .control v c e
  | tick | sense | rxq | config | reset | ctrl | step | boot => cases hi

/-! ### What a host operation writes (R182 to R186, R230) -/

/-- What a host operation leaves of `s`, with what has to hold for it. -/
inductive HostEffect (s : State) : Instr → State → Prop where
  | tick {t : State} (hb : s.stage ≠ .configured) (h : cycle s.beginCycle = .next t) : HostEffect s .tick t
  | step {t : State} (v c : Word) (hb : s.stage ≠ .configured)
      (h : cycle (s.setFeedback v c).beginCycle = .next t) : HostEffect s (.step v c) t
  | sense (v c : Word) : HostEffect s (.sense v c) (s.setFeedback v c)
  | rxq (id : Nat) (data : List Byte) (hf : frameProblem s.cfg ⟨id, data⟩ = none) :
      HostEffect s (.rxq id data) (s.enqueue ⟨id, data⟩)
  | ctrl (v c : Word) (e : Byte) (hf : frameProblem s.cfg ⟨s.cfg.controlId, controlBytes v c e⟩ = none) :
      HostEffect s (.ctrl v c e) (s.enqueue ⟨s.cfg.controlId, controlBytes v c e⟩)
  | config (a : ConfigArgs) (hl : configProblem (configured s.args a) = none) :
      HostEffect s (.config a) (s.setConfig (configured s.args a))
  | boot (n : Word) (hl : configProblem (configured s.args { minCurrent := some n }) = none) :
      HostEffect s (.boot n) (s.setConfig (configured s.args { minCurrent := some n })).applyReset
  | reset : HostEffect s .reset s.applyReset

theorem execTick_next {s t : State} (h : execTick s = .next t) :
    s.stage ≠ .configured ∧ cycle s.beginCycle = .next t := by
  obtain ⟨-, h⟩ := betweenCycles_eq_next.1 h
  repeat' split at h
  · cases h
  · cases h
  · exact ⟨‹_›, h⟩

theorem execRxq_next {s t : State} {id : Nat} {data : List Byte} (h : execRxq id data s = .next t) :
    frameProblem s.cfg ⟨id, data⟩ = none ∧ t = s.enqueue ⟨id, data⟩ := by
  obtain ⟨-, h⟩ := betweenCycles_eq_next.1 h
  split at h <;> cases h
  exact ⟨‹_›, rfl⟩

theorem execConfig_next {s t : State} {a : ConfigArgs} (h : execConfig a s = .next t) :
    configProblem (configured s.args a) = none ∧ t = s.setConfig (configured s.args a) := by
  obtain ⟨-, h⟩ := betweenCycles_eq_next.1 h
  repeat' split at h
  all_goals cases h
  exact ⟨‹_›, rfl⟩

theorem execSense_next {s t : State} {v c : Word} (h : execSense v c s = .next t) : t = s.setFeedback v c := by
  obtain ⟨-, h⟩ := betweenCycles_eq_next.1 h
  cases h
  rfl

theorem execReset_next {s t : State} (h : execReset s = .next t) : t = s.applyReset := by
  obtain ⟨-, h⟩ := betweenCycles_eq_next.1 h
  cases h
  rfl

/-- Every host operation that answers a next state writes as its rule says. -/
theorem exec_hostEffect {i : Instr} {s t : State} (hi : i.isHostOp = true) (h : exec i s = .next t) :
    HostEffect s i t := by
  cases i with
  | tick =>
    obtain ⟨hb, hc⟩ := execTick_next h
    exact .tick hb hc
  | sense v c =>
    cases execSense_next h
    exact .sense v c
  | rxq id data =>
    obtain ⟨hf, rfl⟩ := execRxq_next h
    exact .rxq id data hf
  | config a =>
    obtain ⟨hl, rfl⟩ := execConfig_next h
    exact .config a hl
  | reset =>
    cases execReset_next h
    exact .reset
  | ctrl v c e =>
    obtain ⟨hf, rfl⟩ := execRxq_next h
    exact .ctrl v c e hf
  | step v c =>
    obtain ⟨u, hu, hk⟩ := andThen_eq_next.1 h
    cases execSense_next hu
    obtain ⟨hb, hc⟩ := execTick_next hk
    exact .step v c hb hc
  | boot n =>
    obtain ⟨u, hu, hk⟩ := andThen_eq_next.1 h
    obtain ⟨hl, rfl⟩ := execConfig_next hu
    cases execReset_next hk
    exact .boot n hl
  | advanceIdle | advanceCc | advanceCv | advanceInvalid | vloopIdle | vloopCc | vloopCv | regulateInvalid | iloopIdle
  | iloopCc | iloopCv | encHeartbeat | encStatus | rxNone | rxOther | ctrlBadlen | ctrlBaden | ctrlOk => cases hi

/-! ### A whole cycle, by its operations -/

theorem advance_eq_exec (s : State) : ∃ i, i.isHostOp = false ∧ advance s = exec i s := by
  unfold advance
  split_ifs
  · exact ⟨.advanceIdle, rfl, rfl⟩
  · exact ⟨.advanceCc, rfl, rfl⟩
  · exact ⟨.advanceCv, rfl, rfl⟩
  · exact ⟨.advanceInvalid, rfl, rfl⟩

theorem vloop_eq_exec (p : BitVec 2) (s : State) : ∃ i, i.isHostOp = false ∧ vloop p s = exec i s := by
  unfold vloop
  split_ifs
  · exact ⟨.vloopIdle, rfl, rfl⟩
  · exact ⟨.vloopCc, rfl, rfl⟩
  · exact ⟨.vloopCv, rfl, rfl⟩

theorem iloop_eq_exec (p : BitVec 2) (s : State) : ∃ i, i.isHostOp = false ∧ iloop p s = exec i s := by
  unfold iloop
  split_ifs
  · exact ⟨.iloopIdle, rfl, rfl⟩
  · exact ⟨.iloopCc, rfl, rfl⟩
  · exact ⟨.iloopCv, rfl, rfl⟩

theorem decControl_eq_exec (s : State) : ∃ i, i.isHostOp = false ∧ decControl s = exec i s := by
  unfold decControl
  split
  · exact ⟨.rxNone, rfl, rfl⟩
  · split_ifs
    · exact ⟨.rxOther, rfl, rfl⟩
    · exact ⟨.ctrlBadlen, rfl, rfl⟩
    · exact ⟨.ctrlOk, rfl, rfl⟩
    · exact ⟨.ctrlBaden, rfl, rfl⟩

/-- Kept by every operation inside a cycle, hence by the cycle's steps that are one operation. -/
def KeptInside (P : State → Prop) : Prop :=
  ∀ (i : Instr) (s t : State), i.isHostOp = false → exec i s = .next t → P s → P t

section
variable {P : State → Prop} (hop : KeptInside P)
include hop

theorem KeptInside.of_eq_exec {s t : State} {o : Result} (ho : ∃ i, i.isHostOp = false ∧ o = exec i s)
    (h : o = .next t) (hs : P s) : P t := by
  obtain ⟨i, hi, rfl⟩ := ho
  exact hop i s t hi h hs

theorem KeptInside.regulate {s t : State} (h : regulate s = .next t) (hs : P s) : P t := by
  unfold Machine.regulate at h
  split at h
  · exact hop .regulateInvalid s t rfl h hs
  · obtain ⟨u, hu, ht⟩ := andThen_eq_next.1 h
    exact hop.of_eq_exec (iloop_eq_exec _ u) ht (hop.of_eq_exec (vloop_eq_exec _ s) hu hs)

/-- A cycle keeps what its operations, the poll and the end of the cycle keep. -/
theorem KeptInside.cycle (hpoll : ∀ s t, poll s = .ok t → P s → P t) (hend : ∀ s, P s → P s.endCycle) {s t : State}
    (h : cycle s = .next t) (hs : P s) : P t := by
  obtain ⟨s1, h1, h⟩ := andThen_eq_next.1 h
  obtain ⟨s2, h2, h⟩ := andThen_eq_next.1 h
  obtain ⟨s3, h3, h⟩ := andThen_eq_next.1 h
  obtain ⟨s4, h4, h⟩ := andThen_eq_next.1 h
  obtain ⟨s5, h5, h⟩ := andThen_eq_next.1 h
  cases h
  have p2 : P s2 := hop.regulate h2 (hop.of_eq_exec (advance_eq_exec s) h1 hs)
  have p4 : P s4 := hop .encStatus s3 s4 rfl h4 (hop .encHeartbeat s2 s3 rfl h3 p2)
  unfold receive at h5
  split at h5
  · exact hend _ (hop.of_eq_exec (decControl_eq_exec _) h5 (hpoll _ _ ‹_› p4))
  · cases h5

end

/-- A completed cycle ends at a boundary, with the poll's answer gone (R36, R180). -/
theorem cycle_next_boundary {s t : State} (h : cycle s = .next t) : t.slot = .between ∧ t.rxAnswer = none := by
  obtain ⟨s1, -, h⟩ := andThen_eq_next.1 h
  obtain ⟨s2, -, h⟩ := andThen_eq_next.1 h
  obtain ⟨s3, -, h⟩ := andThen_eq_next.1 h
  obtain ⟨s4, -, h⟩ := andThen_eq_next.1 h
  obtain ⟨s5, h5, h⟩ := andThen_eq_next.1 h
  cases h
  refine ⟨rfl, ?_⟩
  unfold receive at h5
  split at h5
  · rw [decControl_eq] at h5
    cases h5
    rfl
  · cases h5

end Sys2Proof.Machine
end

section
/-! Who writes what (R22), and what every step keeps: the parameters, a valid operating state, the invariant of a run. -/

namespace Sys2Proof.Machine

/-- Settles O49: each of the five ways in which an operation inside a cycle writes names its operations. -/
theorem registerWriters : Obligations.RegisterWriters := by
  intro i s t hi h
  cases exec_insideEffect hi h with
  | advance n o hm =>
    exact ⟨fun hn => absurd hm hn, fun _ => ⟨rfl, rfl⟩, fun _ _ => rfl, fun _ => rfl, rfl, rfl, rfl, rfl, rfl⟩
  | endCharge =>
    exact ⟨fun hn => absurd (by decide) hn, fun _ => ⟨rfl, rfl⟩, fun _ hn => absurd rfl hn, fun _ => rfl,
      rfl, rfl, rfl, rfl, rfl⟩
  | command c hm =>
    exact ⟨fun _ => ⟨rfl, rfl⟩, fun _ => ⟨rfl, rfl⟩, fun _ _ => rfl, fun hn => absurd hm hn, rfl, rfl, rfl, rfl, rfl⟩
  | control v c e =>
    exact ⟨fun _ => ⟨rfl, rfl⟩, fun hn => absurd rfl hn, fun hn => absurd rfl hn, fun _ => rfl, rfl, rfl, rfl, rfl, rfl⟩
  | silent a evs =>
    exact ⟨fun _ => ⟨rfl, rfl⟩, fun _ => ⟨rfl, rfl⟩, fun _ _ => rfl, fun _ => rfl, rfl, rfl, rfl, rfl, rfl⟩

/-! ### The parameters (R27, R170, R186) -/

/-- The two states hold the same `min_current`, parameters and model's arguments. -/
structure State.SameParameters (s t : State) : Prop where
  min_current : t.regs.minCurrent = s.regs.minCurrent
  cfg : t.cfg = s.cfg
  args : t.args = s.args

/-- No operation inside a cycle writes a parameter. -/
theorem sameParameters_keptInside (s : State) : KeptInside s.SameParameters := by
  intro i u v hi h hs
  cases exec_insideEffect hi h <;> exact { hs with }

theorem cycle_sameParameters {s t : State} (h : cycle s = .next t) : s.SameParameters t := by
  refine (sameParameters_keptInside s).cycle (fun u v hp hs => ?_) (fun _ hs => { hs with }) h ⟨rfl, rfl, rfl⟩
  obtain ⟨-, rfl⟩ := poll_eq_ok.1 hp
  exact { hs with }

/-- Settles O50: the operations inside a cycle write no parameter, hence TICK and STEP write none either. -/
theorem parametersConstant : Obligations.ParametersConstant := by
  intro i s t h
  cases hi : i.isHostOp with
  | false =>
    have hs : s.SameParameters t := sameParameters_keptInside s i s t hi h ⟨rfl, rfl, rfl⟩
    exact ⟨fun _ _ => hs.min_current, fun _ _ => hs.cfg, hs.args⟩
  | true =>
    cases exec_hostEffect hi h with
    | tick hb hc =>
      have hs := cycle_sameParameters hc
      exact ⟨fun _ _ => hs.min_current, fun _ _ => hs.cfg, hs.args⟩
    | step v c hb hc =>
      have hs := cycle_sameParameters hc
      exact ⟨fun _ _ => hs.min_current, fun _ _ => hs.cfg, hs.args⟩
    | sense | rxq | ctrl => exact ⟨fun _ _ => rfl, fun _ _ => rfl, rfl⟩
    | config a => exact ⟨fun _ _ => rfl, fun hn => absurd rfl (hn a), rfl⟩
    | boot n => exact ⟨fun _ hn => absurd rfl (hn n), fun _ hn => absurd rfl (hn n), rfl⟩
    | reset => exact ⟨fun hn => absurd rfl hn, fun _ _ => rfl, rfl⟩

/-! ### The invalid operating state (R23, R110) -/

/-- The operating state is one of the three that have a name. -/
def State.ValidOp (s : State) : Prop := s.regs.opState ≠ OpState.invalid

theorem validOp_keptInside : KeptInside State.ValidOp := by
  intro i s t hi h hs
  cases exec_insideEffect hi h with
  | advance n o hm hn ho => exact ho
  | endCharge => exact (by decide : OpState.idle ≠ OpState.invalid)
  | command | control | silent => exact hs

theorem cycle_validOp {s t : State} (h : cycle s = .next t) (hs : s.ValidOp) : t.ValidOp := by
  refine validOp_keptInside.cycle (fun u v hp hu => ?_) (fun _ hu => hu) h hs
  obtain ⟨-, rfl⟩ := poll_eq_ok.1 hp
  exact hu

theorem exec_validOp {i : Instr} {s t : State} (h : exec i s = .next t) (hs : s.ValidOp) : t.ValidOp := by
  cases hi : i.isHostOp with
  | false => exact validOp_keptInside i s t hi h hs
  | true =>
    cases exec_hostEffect hi h with
    | tick hb hc => exact cycle_validOp hc hs
    | step v c hb hc => exact cycle_validOp hc hs
    | sense | rxq | ctrl | config => exact hs
    | boot | reset => exact (by decide : OpState.idle ≠ OpState.invalid)

/-- The fetch writes no register, at a boundary or inside a cycle. -/
theorem fetch_op_regs {s t : State} {i : Instr} (h : fetch s = .op i t) : t.regs = s.regs := by
  by_cases hs : s.slot = .between
  · obtain ⟨⟨ls, rfl⟩, -⟩ := fetch_between_op hs h
    rfl
  · obtain ⟨hr, -⟩ := fetch_inside_op hs h
    exact hr

theorem fetch_skip_regs {s t : State} (h : fetch s = .skip t) : t.regs = s.regs := by
  obtain ⟨-, ls, rfl⟩ | ⟨-, rfl⟩ := fetch_eq_skip h
  · rfl
  · rfl

/-- Settles O59: ADVANCE in a valid state writes a valid one, RESET writes Idle, and nothing else writes `op_state`. -/
theorem invalidStateNeverEntered : Obligations.InvalidStateNeverEntered := by
  intro s t hs h
  obtain ⟨-, ⟨-, rfl⟩ | hskip | ⟨i, u, v, hf, hx, rfl⟩⟩ := step_eq_next h
  · exact hs
  · rwa [fetch_skip_regs hskip]
  · have hu : u.ValidOp := by rwa [State.ValidOp, fetch_op_regs hf]
    rw [retire_regs]
    exact exec_validOp hx hu

/-! ### The invariant of a run (R27, R36, R80, R186) -/

theorem Command.kind_ne_unused (c : Command) : c.kind ≠ ActionKind.unused := by
  cases c with
  | stopAll => exact (by decide : ActionKind.stopAll ≠ ActionKind.unused)
  | setVoltage v => exact (by decide : ActionKind.setVoltage ≠ ActionKind.unused)
  | setCurrent v => exact (by decide : ActionKind.setCurrent ≠ ActionKind.unused)

/-- The part of the invariant that holds inside a cycle too: all of it but the boundary and the answer that is gone. -/
structure State.BlockInv (s : State) : Prop where
  net_used : s.regs.netState ≠ NetState.unused
  action_used : s.regs.lastAction ≠ ActionKind.unused
  cfg_legal : configProblem s.cfg = none
  args_legal : configProblem s.args = none
  min_current : s.stage ≠ .configured → s.regs.minCurrent = s.cfg.minCurrent
  queue_fits : ∀ f ∈ s.rxQueue, f.len ≤ 8

theorem State.Inv.blockInv {s : State} (h : s.Inv) : s.BlockInv := { h with }

theorem blockInv_keptInside : KeptInside State.BlockInv := by
  intro i s t hi h hs
  cases exec_insideEffect hi h with
  | advance n o hm hn ho => exact { hs with net_used := hn }
  | endCharge => exact { hs with net_used := (by decide : NetState.operate ≠ NetState.unused) }
  | command c hm => exact { hs with action_used := c.kind_ne_unused }
  | control | silent => exact { hs with }

/-- The poll only shortens the queue. -/
theorem poll_blockInv {s t : State} (h : poll s = .ok t) (hs : s.BlockInv) : t.BlockInv := by
  obtain ⟨-, rfl⟩ := poll_eq_ok.1 h
  exact { hs with queue_fits := fun f hf => hs.queue_fits f (List.mem_of_mem_tail hf) }

theorem cycle_inv {s t : State} (h : cycle s = .next t) (hs : s.BlockInv) : t.Inv := by
  have ht : t.BlockInv := blockInv_keptInside.cycle (fun _ _ => poll_blockInv) (fun _ hu => { hu with }) h hs
  obtain ⟨hb, ha⟩ := cycle_next_boundary h
  exact { ht with between := hb, answer_gone := ha }

/-- A cycle begins in stage running, so `min_current` must hold MIN_CURRENT by then (R187 (1)). -/
theorem State.BlockInv.beginCycle {s : State} (h : s.BlockInv) (hb : s.stage ≠ .configured) : s.beginCycle.BlockInv :=
  { h with min_current := fun _ => h.min_current hb }

theorem State.Inv.setFeedback {s : State} (h : s.Inv) (v c : Word) : (s.setFeedback v c).Inv := { h with }

theorem State.Inv.enqueue {s : State} {f : Frame} (h : s.Inv) (hf : frameProblem s.cfg f = none) : (s.enqueue f).Inv :=
  { h with
    queue_fits := fun g hg => by
      obtain hg | hg := List.mem_append.1 hg
      · exact h.queue_fits g hg
      · cases List.mem_singleton.1 hg
        exact (frameProblem_eq_none.1 hf).1 }

theorem State.Inv.setConfig {s : State} {p : Params} (h : s.Inv) (hp : configProblem p = none) : (s.setConfig p).Inv :=
  { h with cfg_legal := hp, min_current := fun hn => absurd rfl hn }

theorem State.Inv.applyReset {s : State} (h : s.Inv) : s.applyReset.Inv where
  between := rfl
  net_used := (by decide : NetState.init ≠ NetState.unused)
  action_used := (by decide : ActionKind.stopAll ≠ ActionKind.unused)
  cfg_legal := h.cfg_legal
  args_legal := h.args_legal
  min_current := fun _ => rfl
  answer_gone := rfl
  queue_fits := h.queue_fits

/-- Every host operation keeps the invariant. -/
theorem HostEffect.inv {i : Instr} {s t : State} (h : HostEffect s i t) (hs : s.Inv) : t.Inv := by
  cases h with
  | tick hb hc => exact cycle_inv hc (hs.blockInv.beginCycle hb)
  | step v c hb hc => exact cycle_inv hc ((hs.setFeedback v c).blockInv.beginCycle hb)
  | sense v c => exact hs.setFeedback v c
  | rxq id data hf => exact hs.enqueue hf
  | ctrl v c e hf => exact hs.enqueue hf
  | config a hl => exact hs.setConfig hl
  | boot n hl => exact (hs.setConfig hl).applyReset
  | reset => exact hs.applyReset

theorem State.Inv.setScript {s : State} (h : s.Inv) (ls : List (List Byte)) : (s.setScript ls).Inv := { h with }

/-- Settles O57: at a boundary the fetch takes a script line at most, the operation is a host operation, each of which keeps
the invariant, and the sequencer stays at the boundary. -/
theorem stepKeepsInv : Obligations.StepKeepsInv := by
  intro s t hs h
  obtain ⟨-, ⟨-, rfl⟩ | hskip | ⟨i, u, v, hf, hx, rfl⟩⟩ := step_eq_next h
  · exact hs
  · obtain ⟨-, ls, rfl⟩ | ⟨hslot, -⟩ := fetch_eq_skip hskip
    · exact hs.setScript ls
    · rw [hs.between] at hslot
      cases hslot
  · obtain ⟨⟨ls, rfl⟩, hi⟩ := fetch_between_op hs.between hf
    rw [hs.between, retire_between]
    exact (exec_hostEffect hi hx).inv (hs.setScript ls)

end Sys2Proof.Machine
end

section
/-! What a completed cycle leaves, once: each phase that answers a next state, and the whole TICK, as the tables over the
registers at entry (R180). -/

namespace Sys2Proof.Machine

/-- The four operating states are distinct (R23), in the order in which the tables test for them. -/
@[simp] theorem opState_distinct :
    OpState.idle ≠ OpState.constantCurrent ∧ OpState.idle ≠ OpState.constantVoltage ∧
    OpState.constantCurrent ≠ OpState.idle ∧ OpState.constantCurrent ≠ OpState.constantVoltage ∧
    OpState.constantCurrent ≠ OpState.invalid ∧
    OpState.constantVoltage ≠ OpState.idle ∧ OpState.constantVoltage ≠ OpState.constantCurrent ∧
    OpState.constantVoltage ≠ OpState.invalid ∧
    OpState.invalid ≠ OpState.idle ∧ OpState.invalid ≠ OpState.constantCurrent ∧
    OpState.invalid ≠ OpState.constantVoltage := by decide

/-! ### The state machine -/

/-- ADVANCE's writes, from the tables (R101 to R105). -/
def State.advanced (s : State) : State :=
  { s with regs := { s.regs with
      netState := entryNet s.regs, opState := nextOp s.regs, enable := enableAfterAdvance s.regs } }

/-- ADVANCE clears `enable` at the end of a charge only (R103). -/
theorem enableAfterAdvance_eq_ite (r : Regs) :
    enableAfterAdvance r =
      if r.opState = OpState.constantVoltage ∧ r.feedbackCurrent.toNat ≤ r.minCurrent.toNat then false
      else r.enable := by
  by_cases hcv : r.opState = OpState.constantVoltage
  · by_cases hc : r.feedbackCurrent.toNat ≤ r.minCurrent.toNat <;> simp [enableAfterAdvance, nextOp, hcv, hc]
  · simp [enableAfterAdvance, hcv]

theorem advance_next_of_valid {s t : State} (hs : s.ValidOp) (h : advance s = .next t) : t = s.advanced := by
  rcases opState_cases s.regs.opState with ho | ho | ho | ho
  · rw [advance_of_idle ho] at h
    cases h
    simp [State.advanced, entryNet, enableAfterAdvance, ho]
  · cases hw : s.regs.feedbackVoltageWritten with
    | false => simp [advance_of_cc_unwritten ho hw] at h
    | true =>
      rw [advance_of_cc ho hw] at h
      cases h
      simp [State.advanced, entryNet, enableAfterAdvance, ho]
  · cases hw : s.regs.feedbackCurrentWritten with
    | false => simp [advance_of_cv_unwritten ho hw] at h
    | true =>
      rw [advance_of_cv ho hw] at h
      cases h
      simp [State.advanced, entryNet, ho]
  · exact absurd ho hs

theorem State.advanced_of_invalid {s : State} (ho : s.regs.opState = OpState.invalid) : s.advanced = s := by
  have hn : entryNet s.regs = s.regs.netState := by simp [entryNet, ho]
  have hp : nextOp s.regs = s.regs.opState := by simp [nextOp, ho]
  have he : enableAfterAdvance s.regs = s.regs.enable := by simp [enableAfterAdvance, ho]
  simp only [State.advanced, hn, hp, he]

/-! ### Regulation -/

/-- The commands of the two loops in the post-transition state these registers hold (R120 to R126). -/
def Regs.loopCommands (r : Regs) : List Command :=
  if r.opState = OpState.idle then [.stopAll, .stopAll]
  else if r.opState = OpState.constantCurrent then
    (if r.feedbackCurrent = r.setpointCurrent then [] else [.setCurrent r.setpointCurrent])
  else if r.opState = OpState.constantVoltage then
    (if r.feedbackVoltage = r.setpointVoltage then [] else [.setVoltage r.setpointVoltage])
  else []

/-- REGULATE's commands, and `last_action` with them (R127). -/
def State.regulated (s : State) : State :=
  { s with
    regs := { s.regs with
      lastAction := (s.regs.loopCommands.getLast?.map Command.kind).getD s.regs.lastAction }
    trace := s.trace ++ s.regs.loopCommands.map .act }

theorem State.regulated_of_silent {s : State} (h : s.regs.loopCommands = []) : s.regulated = s := by
  simp [State.regulated, h]

theorem State.regulated_of_one {s : State} {c : Command} (h : s.regs.loopCommands = [c]) : s.regulated = s.issue c := by
  simp [State.regulated, h, State.issue, State.act, State.emit, State.setLastAction]

theorem regulate_next_of_valid {s t : State} (hs : s.ValidOp) (h : regulate s = .next t) : t = s.regulated := by
  rcases opState_cases s.regs.opState with ho | ho | ho | ho
  · rw [regulate_of_idle ho] at h
    cases h
    simp [State.regulated, Regs.loopCommands, ho, Command.kind]
  · cases hw : s.regs.feedbackCurrentWritten with
    | false => simp [regulate_of_cc_unwritten ho hw] at h
    | true =>
      rw [regulate_of_cc ho hw] at h
      cases h
      split
      · exact (State.regulated_of_silent (by simp [Regs.loopCommands, *])).symm
      · exact (State.regulated_of_one (by simp [Regs.loopCommands, *])).symm
  · cases hw : s.regs.feedbackVoltageWritten with
    | false => simp [regulate_of_cv_unwritten ho hw] at h
    | true =>
      rw [regulate_of_cv ho hw] at h
      cases h
      split
      · exact (State.regulated_of_silent (by simp [Regs.loopCommands, *])).symm
      · exact (State.regulated_of_one (by simp [Regs.loopCommands, *])).symm
  · exact absurd ho hs

/-- What the state machine and regulation leave, from the registers at entry. -/
def State.controlled (s : State) : State :=
  { s with
    regs := { s.advanced.regs with lastAction := lastActionAfter s.regs }
    trace := s.trace ++ ((stateReports s.regs).map .report ++ (commands s.regs).map .act) }

/-- The tables read in a valid state: regulation commands what it finds after the transition (R131). -/
theorem State.controlled_of_valid {s : State} (hs : s.ValidOp) : s.controlled = s.advanced.regulated := by
  have hc : commands s.regs = s.advanced.regs.loopCommands := rfl
  have hr : stateReports s.regs = [] := if_neg hs
  simp only [State.controlled, lastActionAfter, hc, hr, List.map_nil, List.nil_append]
  rfl

/-- The tables read in the invalid state: two reports, and every register held (R104, R128). -/
theorem State.controlled_of_invalid {s : State} (ho : s.regs.opState = OpState.invalid) :
    s.controlled = (s.report (.invalidStateAdvance OpState.invalid)).report (.invalidStateRegulate OpState.invalid) := by
  have hc : commands s.regs = [] := by simp [commands, nextOp, ho]
  have hr : stateReports s.regs = [.invalidStateAdvance OpState.invalid, .invalidStateRegulate OpState.invalid] := by
    simp [stateReports, ho]
  simp [State.controlled, State.advanced_of_invalid ho, lastActionAfter, hc, hr, State.report, State.emit]

theorem advance_regulate_next {s u t : State} (ha : advance s = .next u) (hr : regulate u = .next t) :
    t = s.controlled := by
  by_cases ho : s.regs.opState = OpState.invalid
  · rw [advance_of_invalid ho] at ha
    cases ha
    rw [regulate_of_invalid (by exact ho)] at hr
    cases hr
    exact (State.controlled_of_invalid ho).symm
  · have hu : u.ValidOp := validOp_keptInside.of_eq_exec (advance_eq_exec s) ha ho
    cases advance_next_of_valid ho ha
    rw [State.controlled_of_valid ho]
    exact regulate_next_of_valid hu hr

/-! ### The encoders and the decode -/

/-- What the encoders leave: the frames of a cycle whose registers at entry are `r` (R147). -/
def State.sent (s : State) (r : Regs) : State := { s with trace := s.trace ++ (framesSent s.cfg r).map .tx }

theorem encoders_next {s u t : State} {r : Regs} (hh : execEncHeartbeat s = .next u) (hs : execEncStatus u = .next t)
    (hn : s.regs.netState = entryNet r) (hv : s.regs.feedbackVoltage = r.feedbackVoltage)
    (hi : s.regs.feedbackCurrent = r.feedbackCurrent) : t = s.sent r := by
  obtain ⟨c, hc, rfl⟩ := execEncHeartbeat_eq_next.1 hh
  rw [hn] at hc
  obtain ⟨ho, -, -, rfl⟩ | ⟨ho, rfl⟩ := execEncStatus_eq_next.1 hs
  · have ho : entryNet r = NetState.operate := hn ▸ ho
    simp [State.sent, framesSent, State.tx, State.emit, ho, ho ▸ hc, hv, hi]
  · have ho : entryNet r ≠ NetState.operate := hn ▸ ho
    simp [State.sent, framesSent, State.tx, State.emit, ho, hc]

/-- What the poll and the decode leave (R160 to R166). -/
def State.received (s : State) : State :=
  { s with
    regs := s.regs.updated (controlUpdate s.cfg s.answer)
    rxAnswer := none
    rxQueue := s.rxQueue.tail
    trace := s.trace ++ [.rxPoll s.answer] ++ (decodeReports s.cfg s.answer).map .report }

theorem receive_next {s t : State} (h : receive s = .next t) : t = s.received := by
  by_cases hf : s.AnswerFits
  · rw [receive_of_fits hf] at h
    cases h
    rfl
  · obtain ⟨r, hr⟩ := receive_of_not_fits hf
    simp [hr] at h

/-! ### The cycle -/

/-- The phases in order are the tables of a whole cycle, which begins and ends at a boundary. -/
theorem phases_eq_afterCycle {s : State} (hs : s.slot = .between) :
    (s.beginCycle.controlled.sent s.regs).received.endCycle = afterCycle s := by
  cases s
  cases hs
  rfl

/-- A TICK that completes leaves what the tables say, from whatever state it began in (R180). -/
theorem execTick_next_afterCycle {s t : State} (h : execTick s = .next t) : t = afterCycle s := by
  obtain ⟨hs, -⟩ := betweenCycles_eq_next.1 h
  obtain ⟨-, hc⟩ := execTick_next h
  obtain ⟨s1, h1, hc⟩ := andThen_eq_next.1 hc
  obtain ⟨s2, h2, hc⟩ := andThen_eq_next.1 hc
  obtain ⟨s3, h3, hc⟩ := andThen_eq_next.1 hc
  obtain ⟨s4, h4, hc⟩ := andThen_eq_next.1 hc
  obtain ⟨s5, h5, hc⟩ := andThen_eq_next.1 hc
  cases hc
  cases advance_regulate_next h1 h2
  cases encoders_next (r := s.regs) h3 h4 rfl rfl rfl
  cases receive_next h5
  exact phases_eq_afterCycle hs

end Sys2Proof.Machine
end

section
/-! The control update across a cycle (R57): taken whole, or not at all. -/

namespace Sys2Proof.Machine

/-- An answer holds a control update exactly when it is a frame on CONTROL_ID with an enable byte of 0 or 1 (R166). -/
theorem controlUpdate_eq_some {p : Params} {a : Option Frame} {v c : Word} {e : Bool} :
    controlUpdate p a = some (v, c, e) ↔
      ∃ d0 d1 d2 d3 d4 rest, a = some ⟨p.controlId, d0 :: d1 :: d2 :: d3 :: d4 :: rest⟩ ∧
        (d4 = 0 ∨ d4 = 1) ∧ v = be16 d0 d1 ∧ c = be16 d2 d3 ∧ e = decide (d4 = 1) := by
  constructor
  · intro h
    unfold controlUpdate at h
    split at h
    · split at h
      · obtain ⟨rfl, hd⟩ := ‹_ ∧ _›
        cases h
        exact ⟨_, _, _, _, _, _, rfl, hd, rfl, rfl, rfl⟩
      · cases h
    · cases h
  · rintro ⟨d0, d1, d2, d3, d4, rest, rfl, hd, rfl, rfl, rfl⟩
    exact if_pos ⟨rfl, hd⟩

/-- Settles O43: a completed TICK leaves the registers of the tables, in which the setpoints and `enable` are all the
update's values or, without an update, all as the state machine left them. -/
theorem controlUpdateAllOrNothing : Obligations.ControlUpdateAllOrNothing := by
  intro s t h
  cases execTick_next_afterCycle h
  cases hu : controlUpdate s.cfg s.answer with
  | some u =>
    obtain ⟨d0, d1, d2, d3, d4, rest, ha, hd, hv, hc, he⟩ := controlUpdate_eq_some.1 hu
    exact .inl ⟨d0, d1, d2, d3, d4, rest, ha, hd, by simp [afterCycle, regsAfter, hu, hv, hc, he]⟩
  | none => exact .inr (by simp [afterCycle, regsAfter, hu, enableAfterAdvance_eq_ite])

end Sys2Proof.Machine
end

section
/-! Script lines read back (R82, R83): the text of each operand list lexes to its tokens, and the tokens parse to the
operation they were written from. -/

namespace Sys2Proof

/-! ### Numbers -/

theorem digitsValue_append (base : Nat) (value : Byte → Option Nat) (acc : Nat) (xs ys : List Byte) :
    digitsValue base value acc (xs ++ ys) =
      (digitsValue base value acc xs).bind fun a => digitsValue base value a ys := by
  induction xs generalizing acc with
  | nil => rfl
  | cons x xs ih =>
    simp only [List.cons_append, digitsValue]
    cases value x with
    | none => rfl
    | some d => exact ih _

theorem hexValue_hexDigit {n : Nat} (h : n < 16) : hexValue (hexDigit n) = some n :=
  (by decide : ∀ n < 16, hexValue (hexDigit n) = some n) n h

/-- The digits `hexDigits` writes are worth the number, below whatever stands before them. -/
theorem digitsValue_hexDigits (d acc : Nat) {n : Nat} (h : n < 16 ^ d) :
    digitsValue 16 hexValue acc (hexDigits d n) = some (acc * 16 ^ d + n) := by
  induction d generalizing n with
  | zero =>
    obtain rfl : n = 0 := by simpa using h
    simp [hexDigits, digitsValue]
  | succ d ih =>
    have hq : n / 16 < 16 ^ d := by rw [Nat.div_lt_iff_lt_mul (by decide)]; rwa [pow_succ] at h
    simp only [hexDigits, digitsValue_append, ih hq, Option.bind_some, digitsValue,
      hexValue_hexDigit (Nat.mod_lt n (by decide : 16 > 0)), Option.some.injEq]
    rw [pow_succ, ← mul_assoc]
    omega

theorem numberValue_hexText {d n : Nat} (h : n < 16 ^ (d + 1)) : numberValue (hexText (d + 1) n) = some n := by
  have hv : digitsValue 16 hexValue 0 (hexDigits (d + 1) n) = some n := by
    simpa using digitsValue_hexDigits (d + 1) 0 h
  unfold hexText
  cases hd : hexDigits (d + 1) n with
  | nil => simp [hexDigits] at hd
  | cons b bs =>
    rw [hd] at hv
    simpa [numberValue] using hv

@[simp] theorem wordOperand_toNat (v : Word) : wordOperand v.toNat = .ok v := by
  simp [wordOperand, v.isLt]

@[simp] theorem byteOperand_toNat (b : Byte) : byteOperand b.toNat = .ok b := by
  simp [byteOperand, b.isLt]

/-! ### Words and their ends -/

/-- A character that goes on with the word it stands in: no space, no punctuation, no comment. -/
def isWordByte (b : Byte) : Bool := !decide (b = 0x3B) && !isSpace b && (punctuation b).isNone

/-- Punctuation is neither a space nor the start of a comment. -/
theorem not_comment_or_space_of_punctuation {b : Byte} {t : Token} (h : punctuation b = some t) :
    b ≠ 0x3B ∧ isSpace b = false :=
  (by decide : ∀ b, (punctuation b).isSome = true → b ≠ 0x3B ∧ isSpace b = false) b (Option.isSome_of_eq_some h)

/-- The text starts where a word ends: at its end, at a space or at punctuation. -/
def startsBoundary : List Byte → Bool
  | [] => true
  | b :: _ => !decide (b = 0x3B) && (isSpace b || (punctuation b).isSome)

theorem startsBoundary_append {x u : List Byte} (hx : startsBoundary x = true) (hu : startsBoundary u = true) :
    startsBoundary (x ++ u) = true := by
  cases x with
  | nil => exact hu
  | cons b x => exact hx

/-- The lexer gathers the characters of a word. -/
theorem lex_wordBytes (w x u : List Byte) (hx : x.all isWordByte = true) : lex w (x ++ u) = lex (w ++ x) u := by
  induction x generalizing w with
  | nil => simp
  | cons b x ih =>
    obtain ⟨hb, hx⟩ := Bool.and_eq_true_iff.1 (List.all_cons ▸ hx)
    simp only [isWordByte, Bool.and_eq_true, Bool.not_eq_true', decide_eq_false_iff_not,
      Option.isNone_iff_eq_none] at hb
    obtain ⟨⟨hc, hs⟩, hp⟩ := hb
    rw [List.cons_append, lex, if_neg hc, hs, if_neg Bool.false_ne_true, hp]
    simpa using ih (w ++ [b]) hx

/-- At a boundary the word gathered so far is put before the tokens that follow. -/
theorem lex_boundary (w : List Byte) {u : List Byte} {us : List Token} (hu : startsBoundary u = true)
    (h : lex [] u = .ok us) : lex w u = withWord w us := by
  cases u with
  | nil =>
    cases h
    rfl
  | cons b u =>
    obtain ⟨hc, hb⟩ := Bool.and_eq_true_iff.1 hu
    have hc : b ≠ 0x3B := by simpa using hc
    simp only [lex, if_neg hc] at h ⊢
    by_cases hs : isSpace b = true
    · simp only [hs, if_true] at h ⊢
      cases hr : lex [] u with
      | ok ts =>
        rw [hr] at h
        exact congrArg (withWord w) (Except.ok.inj h)
      | error e => simp [hr] at h
    · obtain ⟨t, ht⟩ := Option.isSome_iff_exists.1 ((Bool.or_eq_true_iff.1 hb).resolve_left hs)
      simp only [hs, ht] at h ⊢
      cases hr : lex [] u with
      | ok ts =>
        rw [hr] at h
        exact congrArg (withWord w) (Except.ok.inj h)
      | error e => simp [hr] at h

/-! ### Text that reads as tokens -/

/-- The text, wherever a word may end after it, lexes to these tokens. -/
def Reads (x : List Byte) (ts : List Token) : Prop :=
  ∀ (u : List Byte) (us : List Token), startsBoundary u = true → lex [] u = .ok us →
    lex [] (x ++ u) = .ok (ts ++ us)

theorem Reads.lex_eq {x : List Byte} {ts : List Token} (h : Reads x ts) : lex [] x = .ok ts := by
  simpa using h [] [] rfl rfl

theorem Reads.nil : Reads [] [] := fun _ _ _ h => h

theorem Reads.append {x y : List Byte} {ts us : List Token} (hx : Reads x ts) (hb : startsBoundary y = true)
    (hy : Reads y us) : Reads (x ++ y) (ts ++ us) := by
  intro u vs hu h
  simpa using hx (y ++ u) (us ++ vs) (startsBoundary_append hb hu) (hy u vs hu h)

theorem Reads.space {y : List Byte} {ts : List Token} (h : Reads y ts) : Reads (0x20 :: y) ts := by
  intro u us hu hl
  rw [List.cons_append, lex, if_neg (by decide), if_pos (by decide), h u us hu hl]
  rfl

theorem Reads.punctuation {b : Byte} {y : List Byte} {t : Token} {ts : List Token} (ht : punctuation b = some t)
    (h : Reads y ts) : Reads (b :: y) (t :: ts) := by
  intro u us hu hl
  obtain ⟨hb, hs⟩ := not_comment_or_space_of_punctuation ht
  rw [List.cons_append, lex, if_neg hb, hs, if_neg Bool.false_ne_true, ht]
  simp only [h u us hu hl]
  rfl

theorem Reads.word {w : List Byte} {t : Token} (hw : w ≠ []) (hb : w.all isWordByte = true)
    (ht : wordToken w = .ok t) : Reads w [t] := by
  intro u us hu hl
  rw [lex_wordBytes [] w u hb, List.nil_append, lex_boundary w hu hl, withWord, if_neg hw, ht]
  rfl

theorem isWordByte_of_isNameByte {b : Byte} (h : isNameByte b = true) : isWordByte b = true := by
  revert b
  decide

theorem isDecimalDigit_of_isNameByte {b : Byte} (h : isNameByte b = true) : isDecimalDigit b = false := by
  revert b
  decide

/-- A keyword or parameter name reads as itself. -/
theorem reads_name {kw : List Byte} (h : kw ≠ [] ∧ kw.all isNameByte = true) : Reads kw [.name kw] := by
  obtain ⟨hne, hn⟩ := h
  have hall := List.all_eq_true.1 hn
  have hhead : ¬kw.head?.any isDecimalDigit = true := by
    cases kw with
    | nil => exact absurd rfl hne
    | cons b bs => simp [isDecimalDigit_of_isNameByte (hall b List.mem_cons_self)]
  refine .word hne (List.all_eq_true.2 fun b hb => isWordByte_of_isNameByte (hall b hb)) ?_
  rw [wordToken, if_neg hhead, if_pos hn]

theorem hexDigits_all_isWordByte (d n : Nat) : (hexDigits d n).all isWordByte = true := by
  induction d generalizing n with
  | zero => rfl
  | succ d ih =>
    have hd : isWordByte (hexDigit (n % 16)) = true :=
      (by decide : ∀ n < 16, isWordByte (hexDigit n) = true) _ (Nat.mod_lt n (by decide))
    simp [hexDigits, ih, hd]

/-- A hexadecimal number reads as the number. -/
theorem reads_hexText {d n : Nat} (h : n < 16 ^ (d + 1)) : Reads (hexText (d + 1) n) [.num n] := by
  refine .word (by simp [hexText]) ?_ ?_
  · exact hexDigits_all_isWordByte (d + 1) n
  · have hd : (hexText (d + 1) n).head?.any isDecimalDigit = true := rfl
    rw [wordToken, if_pos hd, numberValue_hexText h]

theorem reads_wordText (v : Word) : Reads (wordText v) [.num v.toNat] := reads_hexText v.isLt

theorem reads_byteText (b : Byte) : Reads (byteText b) [.num b.toNat] := reads_hexText b.isLt

theorem reads_idText {id : Nat} (h : fitsWidestId id = true) : Reads (idText id) [.num id] :=
  reads_hexText ((of_decide_eq_true h).trans (by decide))

/-! ### Lists of items -/

/-- The tokens of items, each after a comma. -/
def listedTokens (items : List (List Token)) : List Token := items.flatMap fun ts => .comma :: ts

@[simp] theorem listedTokens_nil : listedTokens [] = [] := rfl

@[simp] theorem listedTokens_cons (ts : List Token) (items : List (List Token)) :
    listedTokens (ts :: items) = .comma :: (ts ++ listedTokens items) := rfl

theorem listedTokens_append (xs ys : List (List Token)) :
    listedTokens (xs ++ ys) = listedTokens xs ++ listedTokens ys := List.flatMap_append

/-- The tokens of items with a comma between them. -/
def commaTokens : List (List Token) → List Token
  | [] => []
  | ts :: items => ts ++ listedTokens items

@[simp] theorem commaTokens_nil : commaTokens [] = [] := rfl

@[simp] theorem commaTokens_cons (ts : List Token) (items : List (List Token)) :
    commaTokens (ts :: items) = ts ++ listedTokens items := rfl

theorem reads_commaText {xs : List (List Byte)} {items : List (List Token)} (h : List.Forall₂ Reads xs items) :
    Reads (commaText xs) (commaTokens items) := by
  induction h with
  | nil => exact .nil
  | cons hx hxs ih =>
    cases hxs with
    | nil => simpa [commaText] using hx
    | cons hy hys => simpa [commaText] using hx.append rfl (ih.space.punctuation rfl)

/-- The tokens of a byte list, with its brackets. -/
def bracketTokens (bs : List Byte) : List Token :=
  .lbracket :: (commaTokens (bs.map fun b => [.num b.toNat]) ++ [.rbracket])

theorem reads_bracketText (bs : List Byte) : Reads (bracketText bs) (bracketTokens bs) := by
  have hbs : List.Forall₂ Reads (bs.map byteText) (bs.map fun b => [.num b.toNat]) := by
    simp [List.forall₂_map_left_iff, List.forall₂_map_right_iff, List.forall₂_same, reads_byteText]
  exact .punctuation rfl
    ((reads_commaText hbs).append rfl (.punctuation rfl .nil))

/-! ### Lines -/

/-- A line is parsed from its keyword and its operands' tokens. -/
theorem decode_lineText {kw : List Byte} {xs : List (List Byte)} {items : List (List Token)} (hkw : Reads kw [.name kw])
    (h : List.Forall₂ Reads xs items) : decode (lineText kw xs) = parse (.name kw :: commaTokens items) := by
  have hl : Reads (kw ++ 0x20 :: commaText xs) (.name kw :: commaTokens items) :=
    hkw.append rfl (reads_commaText h).space
  simp only [decode, lineText, decodeLine, hl.lex_eq]

theorem moreBytes_listedTokens (bs : List Byte) :
    moreBytes (listedTokens (bs.map fun b => [.num b.toNat]) ++ [.rbracket]) = .ok bs := by
  induction bs with
  | nil => rfl
  | cons b bs ih =>
    simp only [List.map_cons, listedTokens_cons, List.cons_append, List.nil_append, moreBytes, byteOperand_toNat, ih]

theorem byteList_commaTokens (bs : List Byte) :
    byteList (commaTokens (bs.map fun b => [.num b.toNat]) ++ [.rbracket]) = .ok bs := by
  cases bs with
  | nil => rfl
  | cons b bs => exact moreBytes_listedTokens (b :: bs)

/-! ### CONFIG -/

/-- The tokens of `NAME=<value>`, if the parameter is given. -/
def parameterTokens {α : Type} (name : List Byte) (value : α → List Token) (x : Option α) : List (List Token) :=
  match x with
  | some v => [.name name :: .equals :: value v]
  | none => []

theorem reads_parameterText {α : Type} {name : List Byte} {text : α → List Byte} {value : α → List Token}
    {x : Option α} (hname : Reads name [.name name]) (hx : ∀ v, x = some v → Reads (text v) (value v)) :
    List.Forall₂ Reads (parameterText name text x) (parameterTokens name value x) := by
  cases x with
  | none => exact .nil
  | some v => exact .cons (hname.append rfl (.punctuation rfl (hx v rfl))) .nil

/-- The parameters' tokens of a CONFIG line, in the order R82 writes them. -/
def configTokens (a : ConfigArgs) : List (List Token) :=
  parameterTokens kwMinCurrent (fun v => [.num v.toNat]) a.minCurrent ++
    parameterTokens kwHeartbeatId (fun n => [.num n]) a.heartbeatId ++
    parameterTokens kwStatusId (fun n => [.num n]) a.statusId ++
    parameterTokens kwControlId (fun n => [.num n]) a.controlId ++
    parameterTokens kwIdWidth (fun n => [.num n]) a.idWidth ++
    parameterTokens kwHbCode (fun c => bracketTokens [c.1, c.2.1, c.2.2]) a.hbCode

theorem reads_configTexts {a : ConfigArgs} (h : a.wellFormed = true) :
    List.Forall₂ Reads (configTexts a) (configTokens a) := by
  simp only [ConfigArgs.wellFormed, Bool.and_eq_true, Option.all_eq_true] at h
  obtain ⟨⟨⟨⟨hh, hs⟩, hc⟩, hw⟩, -⟩ := h
  have hwidth : ∀ w, a.idWidth = some w → Reads (hexText 2 w) [.num w] := fun w ha => by
    have hw := of_decide_eq_true (hw w ha)
    exact reads_hexText (by omega)
  have hminCurrent := reads_parameterText (x := a.minCurrent)
    (reads_name (kw := kwMinCurrent) (by decide)) fun v _ => reads_wordText v
  have hheartbeat := reads_parameterText (x := a.heartbeatId)
    (reads_name (kw := kwHeartbeatId) (by decide)) fun n hn => reads_idText (hh n hn)
  have hstatus := reads_parameterText (x := a.statusId)
    (reads_name (kw := kwStatusId) (by decide)) fun n hn => reads_idText (hs n hn)
  have hcontrol := reads_parameterText (x := a.controlId)
    (reads_name (kw := kwControlId) (by decide)) fun n hn => reads_idText (hc n hn)
  have hidWidth := reads_parameterText (reads_name (kw := kwIdWidth) (by decide)) hwidth
  have hhbCode := reads_parameterText (x := a.hbCode)
    (reads_name (kw := kwHbCode) (by decide)) fun c _ => reads_bracketText [c.1, c.2.1, c.2.2]
  exact List.rel_append (List.rel_append (List.rel_append (List.rel_append (List.rel_append
    hminCurrent hheartbeat) hstatus) hcontrol) hidWidth) hhbCode

/-- A parameter that is left out changes nothing, and one that is given is written: what follows is parsed after it. -/
theorem parameters_parameterTokens {α : Type} {name : List Byte} {value : α → List Token} {c : ConfigArgs}
    (write : Option α → ConfigArgs) (x : Option α) (ts : List Token) (hnone : write none = c)
    (hsome : ∀ v,
      parameters c (.comma :: .name name :: .equals :: (value v ++ ts)) = parameters (write (some v)) ts) :
    parameters c (listedTokens (parameterTokens name value x) ++ ts) = parameters (write x) ts := by
  cases x with
  | none => rw [hnone]; rfl
  | some v => simpa [parameterTokens] using hsome v

/-- Each parameter of the line is written over the ones before it; together they are all of `a`. -/
theorem parameters_configTokens (a : ConfigArgs) : parameters {} (listedTokens (configTokens a)) = .ok a := by
  obtain ⟨m, h, s, c, w, b⟩ := a
  rw [← List.append_nil (listedTokens _)]
  simp only [configTokens, listedTokens_append, List.append_assoc]
  rw [parameters_parameterTokens (fun x => ⟨x, none, none, none, none, none⟩) m _ rfl fun _ => ?_,
    parameters_parameterTokens (fun x => ⟨m, x, none, none, none, none⟩) h _ rfl fun _ => rfl,
    parameters_parameterTokens (fun x => ⟨m, h, x, none, none, none⟩) s _ rfl fun _ => rfl,
    parameters_parameterTokens (fun x => ⟨m, h, s, x, none, none⟩) c _ rfl fun _ => rfl,
    parameters_parameterTokens (fun x => ⟨m, h, s, c, x, none⟩) w _ rfl fun _ => rfl,
    parameters_parameterTokens (fun x => ⟨m, h, s, c, w, x⟩) b _ rfl fun _ => ?_]
  · rfl
  · simp [bracketTokens, parameters, giveCodes, giveOnce, Except.map]
  · simp [parameters, giveNumber, giveOnce, Except.map]

theorem configOperands_of_parameters {items : List (List Token)} {a : ConfigArgs}
    (h : parameters {} (listedTokens items) = .ok a) : configOperands (commaTokens items) = .ok (.config a) := by
  cases items with
  | nil => cases h; rfl
  | cons ts items =>
    have h : parameters {} (.comma :: commaTokens (ts :: items)) = .ok a := h
    unfold configOperands
    split
    · rename_i he
      rw [he] at h
      simp [parameters] at h
    · rw [h]

/-! ### The operand lists -/

theorem twoWords_wordTokens (op : Word → Word → Instr) (v c : Word) :
    twoWords op (commaTokens [[.num v.toNat], [.num c.toNat]]) = .ok (op v c) := by
  simp [twoWords]

theorem ctrlOperands_tokens (v c : Word) (e : Byte) :
    ctrlOperands (commaTokens [[.num v.toNat], [.num c.toNat], [.num e.toNat]]) = .ok (.ctrl v c e) := by
  simp [ctrlOperands]

theorem bootOperand_tokens (n : Word) : bootOperand (commaTokens [[.num n.toNat]]) = .ok (.boot n) := by
  simp [bootOperand]

theorem rxqOperands_tokens (id : Nat) (data : List Byte) :
    rxqOperands (commaTokens [[.num id], bracketTokens data]) = .ok (.rxq id data) := by
  simp [bracketTokens, rxqOperands, byteList_commaTokens]

/-- Settles O1: a key is looked up in its map; a line reads back as its keyword and its operands' tokens, and each
operand list parses to its operands. -/
theorem decodeEncodeRoundTrip : Obligations.DecodeEncodeRoundTrip := by
  intro i hi
  cases i with
  | sense v c =>
    rw [encode, decode_lineText (reads_name (by decide)) (.cons (reads_wordText v) (.cons (reads_wordText c) .nil))]
    exact twoWords_wordTokens .sense v c
  | step v c =>
    rw [encode, decode_lineText (reads_name (by decide)) (.cons (reads_wordText v) (.cons (reads_wordText c) .nil))]
    exact twoWords_wordTokens .step v c
  | rxq id data =>
    obtain ⟨hid, -⟩ := Bool.and_eq_true_iff.1 hi
    rw [encode, decode_lineText (reads_name (by decide))
      (.cons (reads_idText hid) (.cons (reads_bracketText data) .nil))]
    exact rxqOperands_tokens id data
  | ctrl v c e =>
    rw [encode, decode_lineText (reads_name (by decide))
      (.cons (reads_wordText v) (.cons (reads_wordText c) (.cons (reads_byteText e) .nil)))]
    exact ctrlOperands_tokens v c e
  | boot n =>
    rw [encode, decode_lineText (reads_name (by decide)) (.cons (reads_wordText n) .nil)]
    exact bootOperand_tokens n
  | config a =>
    rw [encode, decode_lineText (reads_name (by decide)) (reads_configTexts hi)]
    exact configOperands_of_parameters (parameters_configTokens a)
  | tick | reset => rfl
  | advanceIdle | advanceCc | advanceCv | advanceInvalid | vloopIdle | vloopCc | vloopCv | regulateInvalid | iloopIdle
  | iloopCc | iloopCv | encHeartbeat | encStatus | rxNone | rxOther | ctrlBadlen | ctrlBaden | ctrlOk => rfl

end Sys2Proof
end

section
/-! The operations of a script that configure the block or queue a control frame, with their refusals, the heartbeat
frame, and some keys and lines as the spec writes them (R71, R79 to R83, R186). -/

namespace Sys2Proof.Machine

/-! ### CONFIG, RESET and BOOT (R83, R186, R230) -/

theorem execConfig_of_legal {s : State} {a : ConfigArgs} (hb : s.slot = .between) (hr : s.stage ≠ .running)
    (hp : configProblem (configured s.args a) = none) :
    execConfig a s = .next (s.setConfig (configured s.args a)) := by
  simp [execConfig, hb, hr, hp]

theorem execConfig_of_illegal {s : State} {a : ConfigArgs} {q : ConfigProblem} (hb : s.slot = .between)
    (hr : s.stage ≠ .running) (hp : configProblem (configured s.args a) = some q) :
    execConfig a s = .refused (.configIllegal q) := by
  simp [execConfig, hb, hr, hp]

theorem execConfig_of_running {s : State} {a : ConfigArgs} (hb : s.slot = .between) (hr : s.stage = .running) :
    execConfig a s = .refused .configAfterReset := by
  simp [execConfig, hb, hr]

theorem execReset_of_between {s : State} (hb : s.slot = .between) : execReset s = .next s.applyReset :=
  betweenCycles_of_between hb _

/-- MIN_CURRENT may have any value (R7): what BOOT fixes is legal exactly as the model's arguments are. -/
theorem configProblem_configured_minCurrent (p : Params) (n : Word) :
    configProblem (configured p { minCurrent := some n }) = configProblem p := rfl

/-- Settles O24: field by field; the three heartbeat codes are given together or not at all. -/
theorem configParameterByParameter : Obligations.ConfigParameterByParameter := by
  intro p a
  refine ⟨rfl, rfl, rfl, rfl, rfl, ?_⟩
  cases hc : a.hbCode <;> simp [configured, hc]

/-- Settles O25: a legal configuration has identifiers that fit and differ, and BOOT stops where its CONFIG stops. -/
theorem illegalConfigRefused : Obligations.IllegalConfigRefused := by
  refine ⟨?_, fun s a hb hr => execConfig_of_running hb hr, ?_, ?_⟩
  · rintro s a p hb hr rfl hbad
    cases hp : configProblem (configured s.args a) with
    | some q => exact ⟨q, execConfig_of_illegal hb hr hp⟩
    | none =>
      obtain ⟨-, hfits, ⟨hhs, hhc, hsc⟩, -⟩ := configProblem_eq_none.1 hp
      obtain h | h | h | h := hbad
      · exact absurd hfits h
      · exact absurd h hhs
      · exact absurd h hhc
      · exact absurd h hsc
  · intro s n hb hr
    simp only [exec, execBoot, execConfig_of_running hb hr, andThen_refused]
  · intro s n q hb hr hp
    rw [← configProblem_configured_minCurrent s.args n] at hp
    simp only [exec, execBoot, execConfig_of_illegal hb hr hp, andThen_refused]

/-- Settles O29: BOOT is its CONFIG and then RESET, and MIN_CURRENT is the one parameter its CONFIG gives. -/
theorem bootConfiguresAndResets : Obligations.BootConfiguresAndResets := by
  intro s n hb hr hp
  rw [← configProblem_configured_minCurrent s.args n] at hp
  refine ⟨0, 0, ?_⟩
  rw [exec, execBoot, execConfig_of_legal hb hr hp, andThen_next,
    execReset_of_between (s := s.setConfig _) hb]
  cases s
  cases hb
  rfl

/-! ### CTRL, ENC_HEARTBEAT, and words of the spec (R71, R83) -/

theorem execRxq_of_fits {s : State} {id : Nat} {data : List Byte} (hb : s.slot = .between)
    (hf : frameProblem s.cfg ⟨id, data⟩ = none) : execRxq id data s = .next (s.enqueue ⟨id, data⟩) := by
  simp [execRxq, hb, hf]

/-- Settles O22: CTRL is an RXQ of five bytes on CONTROL_ID. -/
theorem ctrlQueuesControlFrame : Obligations.CtrlQueuesControlFrame := by
  intro s v c e hb hid
  have hlen : (controlBytes v c e).length ≤ 8 := (by decide : 5 ≤ 8)
  exact execRxq_of_fits hb (frameProblem_eq_none.2 ⟨hlen, hid⟩)

/-- Settles O14: each of the three network states has its code. -/
theorem heartbeatFrameSent : Obligations.HeartbeatFrameSent := by
  refine ⟨rfl, fun s => ⟨fun hn => ?_, fun hn => ?_, fun hn => ?_⟩⟩
  · exact execEncHeartbeat_of_code (hn ▸ rfl)
  · exact execEncHeartbeat_of_code (hn ▸ rfl)
  · exact execEncHeartbeat_of_code (hn ▸ rfl)

/-- Settles O2: each key and each line is decoded as it stands. -/
theorem specWordsDecode : Obligations.SpecWordsDecode := by
  unfold Obligations.SpecWordsDecode
  decide

end Sys2Proof.Machine
end

section
/-! A cycle with both feedback registers written always completes (R83, R180). -/

namespace Sys2Proof.Machine

/-- All that a cycle can miss is there: both feedback registers, a network state that has a code, an answer that
fits. -/
structure State.CanComplete (s : State) : Prop where
  voltage_written : s.regs.feedbackVoltageWritten = true
  current_written : s.regs.feedbackCurrentWritten = true
  net_used : s.regs.netState ≠ NetState.unused
  answer_fits : s.AnswerFits

theorem canComplete_keptInside : KeptInside State.CanComplete := by
  intro i s t hi h hs
  cases exec_insideEffect hi h with
  | advance n o hm hn ho => exact { hs with net_used := hn }
  | endCharge => exact { hs with net_used := (by decide : NetState.operate ≠ NetState.unused) }
  | command | control | silent => exact { hs with }

theorem State.CanComplete.advance {s : State} (h : s.CanComplete) : ∃ t, advance s = .next t ∧ t.CanComplete := by
  have hx : ∃ t, Machine.advance s = .next t := by
    rcases opState_cases s.regs.opState with ho | ho | ho | ho
    · exact ⟨_, advance_of_idle ho⟩
    · exact ⟨_, advance_of_cc ho h.voltage_written⟩
    · exact ⟨_, advance_of_cv ho h.current_written⟩
    · exact ⟨_, advance_of_invalid ho⟩
  obtain ⟨t, ht⟩ := hx
  exact ⟨t, ht, canComplete_keptInside.of_eq_exec (advance_eq_exec s) ht h⟩

theorem State.CanComplete.regulate {s : State} (h : s.CanComplete) : ∃ t, regulate s = .next t ∧ t.CanComplete := by
  have hx : ∃ t, Machine.regulate s = .next t := by
    rcases opState_cases s.regs.opState with ho | ho | ho | ho
    · exact ⟨_, regulate_of_idle ho⟩
    · exact ⟨_, regulate_of_cc ho h.current_written⟩
    · exact ⟨_, regulate_of_cv ho h.voltage_written⟩
    · exact ⟨_, regulate_of_invalid ho⟩
  obtain ⟨t, ht⟩ := hx
  exact ⟨t, ht, canComplete_keptInside.regulate ht h⟩

theorem State.CanComplete.encHeartbeat {s : State} (h : s.CanComplete) :
    ∃ t, execEncHeartbeat s = .next t ∧ t.CanComplete := by
  obtain ⟨c, hc⟩ := hbCode_exists (p := s.cfg) h.net_used
  exact ⟨_, execEncHeartbeat_of_code hc, { h with }⟩

theorem State.CanComplete.encStatus {s : State} (h : s.CanComplete) :
    ∃ t, execEncStatus s = .next t ∧ t.CanComplete := by
  by_cases hn : s.regs.netState = NetState.operate
  · exact ⟨_, execEncStatus_of_operate hn h.voltage_written h.current_written, { h with }⟩
  · exact ⟨_, execEncStatus_of_not_operate hn, h⟩

theorem State.CanComplete.cycle {s : State} (h : s.CanComplete) : ∃ t, cycle s = .next t := by
  obtain ⟨s1, h1, c1⟩ := h.advance
  obtain ⟨s2, h2, c2⟩ := c1.regulate
  obtain ⟨s3, h3, c3⟩ := c2.encHeartbeat
  obtain ⟨s4, h4, c4⟩ := c3.encStatus
  exact ⟨_, andThen_eq_next.2 ⟨s1, h1, andThen_eq_next.2 ⟨s2, h2, andThen_eq_next.2 ⟨s3, h3,
    andThen_eq_next.2 ⟨s4, h4, andThen_eq_next.2 ⟨_, receive_of_fits c4.answer_fits, rfl⟩⟩⟩⟩⟩⟩

theorem execTick_of_booted {s : State} (hb : s.slot = .between) (hs : s.stage ≠ .configured)
    (hp : configProblem s.cfg = none) : execTick s = Machine.cycle s.beginCycle := by
  simp [execTick, hb, hs, hp]

/-- Settles O30: SENSE writes both feedback registers, so the TICK after it completes, and a TICK that completes leaves
what the tables say. -/
theorem stepSensesAndTicks : Obligations.StepSensesAndTicks := by
  intro s v c hr hf
  have hc : (s.setFeedback v c).beginCycle.CanComplete := ⟨rfl, rfl, hr.net_used, hf⟩
  obtain ⟨t, ht⟩ := hc.cycle
  have hx : execTick (s.setFeedback v c) = .next t :=
    (execTick_of_booted (s := s.setFeedback v c) hr.between hr.booted hr.cfg_legal).trans ht
  have hs : exec (.step v c) s = execTick (s.setFeedback v c) := by
    rw [exec, execStep, execSense, betweenCycles_of_between hr.between, andThen_next]
  rw [hs, hx, execTick_next_afterCycle hx]
  rfl

end Sys2Proof.Machine
end

section
/-! No step leaves a launch state that is refused (R80, R186, R207). -/

namespace Sys2Proof.Machine

/-- The state is no refused launch state: used codes in `net_state` and `last_action`, and a legal configuration. -/
structure State.Launchable (s : State) : Prop where
  net_used : s.regs.netState ≠ NetState.unused
  action_used : s.regs.lastAction ≠ ActionKind.unused
  cfg_legal : configProblem s.cfg = none

theorem launchable_iff {s : State} : s.Launchable ↔ launchProblem s = none := by
  rw [launchProblem_eq_none]
  exact ⟨fun ⟨hn, ha, hc⟩ => ⟨hn, ha, hc⟩, fun ⟨hn, ha, hc⟩ => ⟨hn, ha, hc⟩⟩

theorem launchable_keptInside : KeptInside State.Launchable := by
  intro i s t hi h hs
  cases exec_insideEffect hi h with
  | advance n o hm hn ho => exact { hs with net_used := hn }
  | endCharge => exact { hs with net_used := (by decide : NetState.operate ≠ NetState.unused) }
  | command c hm => exact { hs with action_used := c.kind_ne_unused }
  | control | silent => exact { hs with }

theorem cycle_launchable {s t : State} (h : cycle s = .next t) (hs : s.Launchable) : t.Launchable := by
  refine launchable_keptInside.cycle (fun u v hp hu => ?_) (fun _ hu => { hu with }) h hs
  obtain ⟨-, rfl⟩ := poll_eq_ok.1 hp
  exact { hu with }

/-- RESET writes used codes, whatever stood there. -/
theorem applyReset_launchable {s : State} (hp : configProblem s.cfg = none) : s.applyReset.Launchable where
  net_used := (by decide : NetState.init ≠ NetState.unused)
  action_used := (by decide : ActionKind.stopAll ≠ ActionKind.unused)
  cfg_legal := hp

theorem exec_launchable {i : Instr} {s t : State} (h : exec i s = .next t) (hs : s.Launchable) : t.Launchable := by
  cases hi : i.isHostOp with
  | false => exact launchable_keptInside i s t hi h hs
  | true =>
    cases exec_hostEffect hi h with
    | tick hb hc => exact cycle_launchable hc { hs with }
    | step v c hb hc => exact cycle_launchable hc { hs with }
    | sense | rxq | ctrl => exact { hs with }
    | config a hl => exact { hs with cfg_legal := hl }
    | boot n hl => exact applyReset_launchable hl
    | reset => exact applyReset_launchable hs.cfg_legal

/-- The fetch writes no parameter, at a boundary or inside a cycle. -/
theorem fetch_op_cfg {s t : State} {i : Instr} (h : fetch s = .op i t) : t.cfg = s.cfg := by
  by_cases hs : s.slot = .between
  · obtain ⟨⟨ls, rfl⟩, -⟩ := fetch_between_op hs h
    rfl
  · obtain ⟨-, hc, -⟩ := fetch_inside_op hs h
    exact hc

theorem fetch_skip_cfg {s t : State} (h : fetch s = .skip t) : t.cfg = s.cfg := by
  obtain ⟨-, ls, rfl⟩ | ⟨-, rfl⟩ := fetch_eq_skip h
  · rfl
  · rfl

theorem State.Launchable.of_same {s t : State} (hs : s.Launchable) (hr : t.regs = s.regs) (hc : t.cfg = s.cfg) :
    t.Launchable :=
  ⟨hr ▸ hs.net_used, hr ▸ hs.action_used, hc ▸ hs.cfg_legal⟩

/-- Settles O60: neither the fetch nor the sequencer writes a register or a parameter, and every operation keeps used
codes and a legal configuration. -/
theorem unusedCodesNeverWritten : Obligations.UnusedCodesNeverWritten := by
  intro s t hs h
  rw [← launchable_iff] at hs ⊢
  obtain ⟨-, ⟨-, rfl⟩ | hskip | ⟨i, u, v, hf, hx, rfl⟩⟩ := step_eq_next h
  · exact hs
  · exact hs.of_same (fetch_skip_regs hskip) (fetch_skip_cfg hskip)
  · have hu : u.Launchable := hs.of_same (fetch_op_regs hf) (fetch_op_cfg hf)
    exact (exec_launchable hx hu).of_same (retire_regs _ _ _) (retire_cfg _ _ _)

end Sys2Proof.Machine
end

section
/-! The charger state machine (40_state_machine.md): what each operation of ADVANCE writes, and what a completed cycle
does to the operating and the network state. -/

namespace Sys2Proof.Machine

/-! ### ADVANCE, operation by operation (R101 to R104) -/

theorem execAdvanceCc_of_unwritten {s : State} (hw : s.regs.feedbackVoltageWritten = false) :
    execAdvanceCc s = .fault (.feedbackUnwritten .voltage .r102) := by
  simp only [execAdvanceCc, readFeedbackVoltage_of_unwritten hw]

theorem execAdvanceCv_of_unwritten {s : State} (hw : s.regs.feedbackCurrentWritten = false) :
    execAdvanceCv s = .fault (.feedbackUnwritten .current .r103) := by
  simp only [execAdvanceCv, readFeedbackCurrent_of_unwritten hw]

/-- Settles O5: `execAdvanceIdle` tests `enable` and makes these two writes. -/
theorem advanceIdleEffect : Obligations.AdvanceIdleEffect := ⟨rfl, fun _ => rfl⟩

/-- Settles O6: the comparison of ADVANCE.CC is the unsigned one of the statement. -/
theorem advanceCcEffect : Obligations.AdvanceCcEffect := by
  refine ⟨rfl, fun s hw => execAdvanceCc_eq_next.2 ⟨hw, ?_⟩, fun s => execAdvanceCc_of_unwritten⟩
  simp only [atLeast_iff]
  rfl

/-- Settles O7: with the current at or below `min_current` the charge ends and `enable` is cleared with it;
above it ADVANCE.CV writes ConstantVoltage and holds `enable`. -/
theorem advanceCvEffect : Obligations.AdvanceCvEffect := by
  refine ⟨rfl, fun s hw => execAdvanceCv_eq_next.2 ⟨hw, ?_⟩, fun s => execAdvanceCv_of_unwritten⟩
  simp only [atMost_iff]
  split
  · rfl
  · rfl

/-- Settles O8: ADVANCE.INVALID is one report, whose code is the table's (R201). -/
theorem advanceInvalidEffect : Obligations.AdvanceInvalidEffect := ⟨fun _ => rfl, fun _ => rfl⟩

/-! ### The network state after a cycle (R104, R105) -/

theorem entryNet_of_idle {r : Regs} (h : r.opState = OpState.idle) : entryNet r = NetState.preOperate := by
  simp [entryNet, h]

theorem entryNet_of_cc {r : Regs} (h : r.opState = OpState.constantCurrent) : entryNet r = NetState.operate := by
  simp [entryNet, h]

theorem entryNet_of_cv {r : Regs} (h : r.opState = OpState.constantVoltage) : entryNet r = NetState.operate := by
  simp [entryNet, h]

theorem entryNet_of_invalid {r : Regs} (h : r.opState = OpState.invalid) : entryNet r = r.netState := by
  simp [entryNet, h]

/-- Settles O38: a completed TICK leaves the network state of the table, which tests the entry state alone. -/
theorem networkStateFromEntryState : Obligations.NetworkStateFromEntryState := by
  intro s t h
  cases execTick_next_afterCycle h
  exact ⟨entryNet_of_idle, entryNet_of_cc, entryNet_of_cv, entryNet_of_invalid⟩

/-! ### `enable` outside Idle (R109, R242) -/

section
variable {r : Regs} (b : Bool) (h : r.opState ≠ OpState.idle)
include h

/-- Only the Idle state tests `enable` (R101). -/
theorem nextOp_enable : nextOp { r with enable := b } = nextOp r := by
  simp only [nextOp, h, if_false]

theorem commands_enable : commands { r with enable := b } = commands r := by
  simp only [commands, nextOp_enable b h]

theorem lastActionAfter_enable : lastActionAfter { r with enable := b } = lastActionAfter r := by
  simp only [lastActionAfter, commands_enable b h]

/-- Besides the commands no event depends on `enable` in any state. -/
theorem cycleTrace_enable (p : Params) (a : Option Frame) :
    cycleTrace p { r with enable := b } a = cycleTrace p r a := by
  simp only [cycleTrace, commands_enable b h]
  rfl

end

/-- Settles O48: both cycles are those of the tables, which read `enable` in Idle only. -/
theorem disableDoesNotStopCharge : Obligations.DisableDoesNotStopCharge := by
  intro s t u b ho ht hu
  have hidle : s.regs.opState ≠ OpState.idle := by
    obtain ho | ho := ho
    · simp [ho]
    · simp [ho]
  cases execTick_next_afterCycle ht
  cases execTick_next_afterCycle hu
  exact ⟨(nextOp_enable b hidle).symm, rfl, (lastActionAfter_enable b hidle).symm,
    (cycleTrace_enable b hidle s.cfg s.answer).symm⟩

/-! ### The transitions of a cycle (R110) -/

/-- The edges of R110, and the invalid state staying as it is (R104). -/
def transitionEdges : List (BitVec 2 × BitVec 2) :=
  [(OpState.idle, OpState.idle), (OpState.idle, OpState.constantCurrent),
   (OpState.constantCurrent, OpState.constantCurrent), (OpState.constantCurrent, OpState.constantVoltage),
   (OpState.constantVoltage, OpState.constantVoltage), (OpState.constantVoltage, OpState.idle),
   (OpState.invalid, OpState.invalid)]

/-- Whatever the other registers hold, the state machine follows an edge. -/
theorem nextOp_mem_transitionEdges (r : Regs) : (r.opState, nextOp r) ∈ transitionEdges := by
  unfold nextOp
  rcases opState_cases r.opState with ho | ho | ho | ho
  · simp only [ho, if_true]
    split <;> decide
  · simp only [ho, opState_distinct, if_true, if_false]
    split <;> decide
  · simp only [ho, opState_distinct, if_true, if_false]
    split <;> decide
  · simp only [ho, opState_distinct, if_false]
    decide

/-- A TICK that misses nothing completes, and leaves what the tables say (R180). -/
theorem tick_of_canComplete {s : State} (hb : s.slot = .between) (hs : s.stage ≠ .configured)
    (hp : configProblem s.cfg = none) (hc : s.beginCycle.CanComplete) : exec .tick s = .next (afterCycle s) := by
  obtain ⟨t, ht⟩ := hc.cycle
  have hx : execTick s = .next t := (execTick_of_booted hb hs hp).trans ht
  exact execTick_next_afterCycle hx ▸ hx

/-- The reset state with that operating state and `enable`, setpoint voltage 1, `min_current` 0, and `d` sensed in both
feedback registers: `d = 0` keeps ConstantCurrent and ends ConstantVoltage, `d = 1` ends the one and keeps the other. -/
def State.sampled (op : BitVec 2) (e : Bool) (d : Word) : State :=
  { State.reset with regs := { Regs.reset Config.modelArgs with
      opState := op, enable := e, setpointVoltage := 1, minCurrent := 0
      feedbackVoltage := d, feedbackCurrent := d, feedbackVoltageWritten := true, feedbackCurrentWritten := true } }

theorem tick_sampled (op : BitVec 2) (e : Bool) (d : Word) :
    exec .tick (.sampled op e d) = .next (afterCycle (.sampled op e d)) :=
  tick_of_canComplete rfl (by decide : Stage.fresh ≠ .configured) modelArgs_legal
    ⟨rfl, rfl, (by decide : NetState.init ≠ NetState.unused), fun _ hf => by cases hf⟩

/-- Every edge is followed from a sampled state. -/
theorem exists_sampled_of_edge {a b : BitVec 2} (h : (a, b) ∈ transitionEdges) :
    ∃ e d, nextOp (State.sampled a e d).regs = b := by
  simp only [transitionEdges, List.mem_cons, Prod.mk.injEq, List.not_mem_nil, or_false] at h
  obtain ⟨rfl, rfl⟩ | ⟨rfl, rfl⟩ | ⟨rfl, rfl⟩ | ⟨rfl, rfl⟩ | ⟨rfl, rfl⟩ | ⟨rfl, rfl⟩ | ⟨rfl, rfl⟩ := h
  · exact ⟨false, 0, rfl⟩
  · exact ⟨true, 0, rfl⟩
  · exact ⟨true, 0, rfl⟩
  · exact ⟨true, 1, rfl⟩
  · exact ⟨true, 1, rfl⟩
  · exact ⟨true, 0, rfl⟩
  · exact ⟨true, 0, rfl⟩

/-- Settles O37: a completed cycle takes the table's transition, which is an edge; and each edge is the transition of the
cycle from one of the sampled states. -/
theorem transitionGraph : Obligations.TransitionGraph := by
  intro a b
  constructor
  · rintro ⟨s, t, h, rfl, rfl⟩
    cases execTick_next_afterCycle h
    exact nextOp_mem_transitionEdges s.regs
  · intro h
    obtain ⟨e, d, hn⟩ := exists_sampled_of_edge h
    exact ⟨_, _, tick_sampled a e d, rfl, hn⟩

end Sys2Proof.Machine
end

section
/-! Regulation (41_regulation.md): what each operation of REGULATE writes, and which command of a cycle `last_action`
records. -/

namespace Sys2Proof.Machine

/-! ### REGULATE, operation by operation (R121 to R128) -/

theorem execVloopCv_of_unwritten {s : State} (hw : s.regs.feedbackVoltageWritten = false) :
    execVloopCv s = .fault (.feedbackUnwritten .voltage .r123) := by
  simp only [execVloopCv, readFeedbackVoltage_of_unwritten hw]

theorem execIloopCc_of_unwritten {s : State} (hw : s.regs.feedbackCurrentWritten = false) :
    execIloopCc s = .fault (.feedbackUnwritten .current .r125) := by
  simp only [execIloopCc, readFeedbackCurrent_of_unwritten hw]

/-- Two commands in a row are both in the trace, and `last_action` records the second alone (R127). -/
theorem State.issue_issue (s : State) (c d : Command) :
    (s.issue c).issue d =
      { s with trace := s.trace ++ [.act c, .act d], regs := { s.regs with lastAction := d.kind } } := by
  simp [State.issue, State.act, State.emit, State.setLastAction]

/-- Settles O9: each loop in Idle is one issue of StopAll, and the current loop's follows the voltage loop's. -/
theorem idleLoopsStop : Obligations.IdleLoopsStop :=
  ⟨rfl, rfl, rfl, fun s => ⟨rfl, rfl, congrArg _ (s.issue_issue .stopAll .stopAll)⟩⟩

/-- Settles O10: both operations answer the state they are given. -/
theorem silentLoopsChangeNothing : Obligations.SilentLoopsChangeNothing := ⟨rfl, rfl, fun _ => ⟨rfl, rfl⟩⟩

/-- Settles O11: the comparison of VLOOP.CV is inequality, with no tolerance (R130). -/
theorem voltageLoopEffect : Obligations.VoltageLoopEffect := by
  refine ⟨fun _ => rfl, rfl, fun s hw => execVloopCv_eq_next.2 ⟨hw, ?_⟩, fun s => execVloopCv_of_unwritten⟩
  simp only [differs_iff, ne_eq, ite_not]
  rfl

/-- Settles O12: the comparison of ILOOP.CC is inequality, with no tolerance (R130). -/
theorem currentLoopEffect : Obligations.CurrentLoopEffect := by
  refine ⟨fun _ => rfl, rfl, fun s hw => execIloopCc_eq_next.2 ⟨hw, ?_⟩, fun s => execIloopCc_of_unwritten⟩
  simp only [differs_iff, ne_eq, ite_not]
  rfl

/-- Settles O13: REGULATE.INVALID is one report, whose code is the table's (R201). -/
theorem regulateInvalidEffect : Obligations.RegulateInvalidEffect := ⟨fun _ => rfl, fun _ => rfl⟩

/-! ### The commands in a cycle's trace (R127, R131) -/

/-- The actuation events of a cycle are its commands, in order: its reports, frames and poll are none. -/
theorem cycleTrace_filter_isAct (p : Params) (r : Regs) (a : Option Frame) :
    (cycleTrace p r a).filter Event.isAct = (commands r).map .act := by
  have hact : Event.isAct ∘ Event.act = fun _ => true := rfl
  have htx : Event.isAct ∘ Event.tx = fun _ => false := rfl
  have hreport : Event.isAct ∘ Event.report = fun _ => false := rfl
  have hpoll : Event.isAct (.rxPoll a) = false := rfl
  simp [cycleTrace, List.filter_map, hact, htx, hreport, hpoll]

/-- Settles O41: the last actuation event of a completed cycle is the last command of the table, whose kind the table gives
`last_action`; with no command it gives what stood there. -/
theorem lastActionIsLastCommand : Obligations.LastActionIsLastCommand := by
  intro s t h
  cases execTick_next_afterCycle h
  have hlast : ((afterCycle s).trace.filter Event.isAct).getLast? = (commands s.regs).getLast?.map .act :=
    (congrArg List.getLast? (cycleTrace_filter_isAct _ _ _)).trans List.getLast?_map
  have haction : (afterCycle s).regs.lastAction =
      ((commands s.regs).getLast?.map Command.kind).getD s.regs.lastAction := rfl
  rw [hlast, haction]
  cases (commands s.regs).getLast? with
  | none => rfl
  | some c => rfl

end Sys2Proof.Machine
end

section
/-! The outbound codec (42_codec_outbound.md): the status frame, and the frames of a completed cycle. -/

namespace Sys2Proof.Machine

/-- Settles O15: the status gate and the two reads of ENC_STATUS; `hi8` and `lo8` are the byte slices the statement writes
out (R10, R72). -/
theorem statusFrameSent : Obligations.StatusFrameSent := fun _ =>
  ⟨execEncStatus_of_operate, execEncStatus_of_voltage_unwritten, execEncStatus_of_current_unwritten,
    execEncStatus_of_not_operate⟩

/-! ### What a completed cycle shows of the state it began in -/

/-- There is no block, hence no cycle, for an illegal configuration (R186). -/
theorem execTick_next_cfg_legal {s t : State} (h : execTick s = .next t) : configProblem s.cfg = none := by
  obtain ⟨-, h⟩ := betweenCycles_eq_next.1 h
  repeat' split at h
  · cases h
  · cases h
  · assumption

/-- A TICK that gets past its heartbeat has a network state with a code (R140, R207). -/
theorem execTick_next_hbCode {s t : State} (h : execTick s = .next t) :
    ∃ c, hbCode s.cfg (entryNet s.regs) = some c := by
  obtain ⟨-, h⟩ := execTick_next h
  obtain ⟨s1, h1, h⟩ := andThen_eq_next.1 h
  obtain ⟨s2, h2, h⟩ := andThen_eq_next.1 h
  obtain ⟨s3, h3, -⟩ := andThen_eq_next.1 h
  cases advance_regulate_next h1 h2
  obtain ⟨c, hc, -⟩ := execEncHeartbeat_eq_next.1 h3
  exact ⟨c, hc⟩

/-- The network state of a cycle is Operate when its entry state is a charging one, or is invalid with Operate
held (R104, R105, R146). -/
theorem entryNet_eq_operate {r : Regs} :
    entryNet r = NetState.operate ↔
      r.opState = OpState.constantCurrent ∨ r.opState = OpState.constantVoltage ∨
        r.opState = OpState.invalid ∧ r.netState = NetState.operate := by
  have hp : NetState.preOperate ≠ NetState.operate := by decide
  have hi : OpState.idle ≠ OpState.invalid := by decide
  rcases opState_cases r.opState with ho | ho | ho | ho
  · simp [entryNet_of_idle ho, ho, hp, hi]
  · simp [entryNet_of_cc ho, ho]
  · simp [entryNet_of_cv ho, ho]
  · simp [entryNet_of_invalid ho, ho]

/-! ### The frames in a cycle's trace (R141, R143, R147) -/

/-- The transmissions of a cycle are its frames, in order: its reports, commands and poll are none. -/
theorem cycleTrace_filter_isTx (p : Params) (r : Regs) (a : Option Frame) :
    (cycleTrace p r a).filter Event.isTx = (framesSent p r).map .tx := by
  have hact : Event.isTx ∘ Event.act = fun _ => false := rfl
  have htx : Event.isTx ∘ Event.tx = fun _ => true := rfl
  have hreport : Event.isTx ∘ Event.report = fun _ => false := rfl
  have hpoll : Event.isTx (.rxPoll a) = false := rfl
  simp [cycleTrace, List.filter_map, hact, htx, hreport, hpoll]

theorem tx_mem_cycleTrace {p : Params} {r : Regs} {a : Option Frame} {f : Frame} :
    Event.tx f ∈ cycleTrace p r a ↔ f ∈ framesSent p r := by
  simp [cycleTrace]

theorem framesSent_of_code {p : Params} {r : Regs} {c : Byte} (hc : hbCode p (entryNet r) = some c) :
    framesSent p r = heartbeatFrame p c ::
      if entryNet r = NetState.operate then [statusFrame p r.feedbackVoltage r.feedbackCurrent] else [] := by
  simp [framesSent, hc]

/-- The block sends under two identifiers only (R71, R72). -/
theorem id_of_mem_framesSent {p : Params} {r : Regs} {f : Frame} (hf : f ∈ framesSent p r) :
    f.id = p.heartbeatId ∨ f.id = p.statusId := by
  obtain hf | hf := List.mem_append.1 hf
  · obtain ⟨c, -, rfl⟩ := Option.map_eq_some_iff.1 (Option.mem_toList.1 hf)
    exact .inl rfl
  · split at hf
    · cases List.mem_singleton.1 hf
      exact .inr rfl
    · cases hf

/-- In a legal configuration neither of them is CONTROL_ID (R7, R147). -/
theorem controlId_not_sent {p : Params} {r : Regs} {f : Frame} (hp : configProblem p = none)
    (hf : f ∈ framesSent p r) : f.id ≠ p.controlId := by
  obtain ⟨-, -, ⟨-, hhc, hsc⟩, -⟩ := configProblem_eq_none.1 hp
  obtain hid | hid := id_of_mem_framesSent hf
  · exact hid ▸ hhc
  · exact hid ▸ hsc

/-- Settles O39: a completed TICK leaves the trace of the tables, whose frames are the heartbeat with the code the cycle
found and, in Operate, the status frame. -/
theorem framesOfEveryCycle : Obligations.FramesOfEveryCycle := by
  intro s t h
  obtain ⟨c, hc⟩ := execTick_next_hbCode h
  have hp : configProblem s.cfg = none := execTick_next_cfg_legal h
  cases execTick_next_afterCycle h
  refine ⟨c, hc, ?_, entryNet_eq_operate, fun f hf => controlId_not_sent hp (tx_mem_cycleTrace.1 hf)⟩
  refine (cycleTrace_filter_isTx _ _ _).trans ?_
  rw [framesSent_of_code hc, List.map_cons, apply_ite (List.map Event.tx)]
  rfl

end Sys2Proof.Machine
end

section
/-! The inbound codec (43_codec_inbound.md): the class a key selects, what each class writes, and a control frame read
back. -/

namespace Sys2Proof.Machine

/-! ### The key and its class (R79 (c), R161) -/

theorem decode_rxZero : decode (.rx 0) = .ok .rxNone := by
  decide

/-- With a frame there, the three lower bits of a key are the tests of R161, read from the top. -/
theorem decode_rxBits (own long valid : Bool) :
    decode (.rx (BitVec.ofBool true ++ BitVec.ofBool own ++ BitVec.ofBool long ++ BitVec.ofBool valid)) =
      .ok (if own = false then .rxOther else if long = false then .ctrlBadlen else if valid then .ctrlOk
        else .ctrlBaden) := by
  revert own long valid
  decide

/-- Settles O3: no frame is key 0, and with a frame each bit of the key is the outcome of one test. -/
theorem inboundKeySelectsByOrderedTests : Obligations.InboundKeySelectsByOrderedTests := by
  intro p a
  cases a with
  | none => exact decode_rxZero
  | some f =>
    have hlong : ¬Config.ctrlMinLen ≤ f.len ↔ f.data.length < 5 := Nat.not_le
    simp only [rxKey, decode_rxBits, decide_eq_false_iff_not, hlong, hasValidEnable_iff, ne_eq]

/-! ### What each class writes (R162 to R166) -/

/-- Settles O16: both classes clear the latch and do nothing else. -/
theorem ignoredAnswersWriteNothing : Obligations.IgnoredAnswersWriteNothing :=
  fun _ => ⟨⟨none, rfl⟩, ⟨none, rfl⟩⟩

/-- Settles O17: each class is one report of the latched frame, whose code is the table's (R201). -/
theorem rejectedFramesReportOnly : Obligations.RejectedFramesReportOnly := fun _ f ha =>
  ⟨⟨none, execCtrlBadlen_eq_next.2 ⟨f, ha, rfl⟩⟩, ⟨none, execCtrlBaden_eq_next.2 ⟨f, ha, rfl⟩⟩, rfl, rfl⟩

/-- CTRL_OK with the bytes it reads makes one control update (R166). -/
theorem execCtrlOk_of_bytes {s : State} {id : Nat} {d0 d1 d2 d3 d4 : Byte} {rest : List Byte}
    (ha : s.rxAnswer = some ⟨id, d0 :: d1 :: d2 :: d3 :: d4 :: rest⟩) (hd : d4 = 0 ∨ d4 = 1) :
    execCtrlOk s =
      .next ((s.applyControl (be16 d0 d1) (be16 d2 d3) (decide (d4 = 1))).setRxAnswer none) := by
  have he : enableOfByte d4 = some (decide (d4 = 1)) := enableOfByte_eq_some.2 ⟨hd, rfl⟩
  simp only [execCtrlOk, ha, he]

/-- Settles O18: the update's words are packed big-endian, which is concatenation (R10, R54). -/
theorem controlUpdateApplied : Obligations.ControlUpdateApplied := by
  intro s id d0 d1 d2 d3 d4 rest ha hd
  refine ⟨none, (execCtrlOk_of_bytes ha hd).trans ?_⟩
  rw [be16_eq_append, be16_eq_append]
  rfl

/-! ### A control frame read back (R171) -/

/-- The byte 4 that stands for an enable flag (R78). -/
def enableByte (e : Bool) : Byte := if e = true then 1 else 0

theorem enableByte_valid (e : Bool) : enableByte e = 0 ∨ enableByte e = 1 := by
  cases e <;> decide

theorem enableByte_eq_one (e : Bool) : decide (enableByte e = 1) = e := by
  cases e <;> rfl

/-- The frame CTRL queues for these values (R83). -/
def controlFrame (p : Params) (v c : Word) (e : Bool) : Frame := ⟨p.controlId, controlBytes v c (enableByte e)⟩

theorem controlFrame_class (p : Params) (v c : Word) (e : Bool) :
    decode (.rx (rxKey p (some (controlFrame p v c e)))) = .ok .ctrlOk := by
  have hid : ¬(controlFrame p v c e).id ≠ p.controlId := fun h => h rfl
  have hlen : ¬(controlFrame p v c e).data.length < 5 := (by decide : ¬5 < 5)
  have hbyte : (controlFrame p v c e).data[4]? = some (enableByte e) := rfl
  have hvalid : (controlFrame p v c e).data[4]? = some 0 ∨ (controlFrame p v c e).data[4]? = some 1 := by
    rw [hbyte, Option.some_inj, Option.some_inj]
    exact enableByte_valid e
  refine (inboundKeySelectsByOrderedTests p _).trans ?_
  simp only [if_neg hid, if_neg hlen, if_pos hvalid]

/-- The update in a control frame is the values it was built from. -/
theorem controlUpdate_controlFrame (p : Params) (v c : Word) (e : Bool) :
    controlUpdate p (some (controlFrame p v c e)) = some (v, c, e) :=
  controlUpdate_eq_some.2 ⟨_, _, _, _, _, _, rfl, enableByte_valid e, (be16_hi8_lo8 v).symm, (be16_hi8_lo8 c).symm,
    (enableByte_eq_one e).symm⟩

/-- A cycle takes the control frame off the queue and leaves its values in the setpoints and `enable`, whatever the
state machine did to them before. -/
theorem afterCycle_controlFrame {s : State} {v c : Word} {e : Bool} {q : List Frame}
    (hq : s.rxQueue = controlFrame s.cfg v c e :: q) :
    (afterCycle s).regs.setpointVoltage = v ∧ (afterCycle s).regs.setpointCurrent = c ∧
      (afterCycle s).regs.enable = e ∧ (afterCycle s).rxQueue = q := by
  have hu : controlUpdate s.cfg s.answer = some (v, c, e) := by
    rw [State.answer, hq, List.head?_cons, controlUpdate_controlFrame]
  simp [afterCycle, regsAfter, hu, hq]

theorem controlFrame_fits {p : Params} (hp : configProblem p = none) (v c : Word) (e : Bool) :
    frameProblem p (controlFrame p v c e) = none :=
  frameProblem_eq_none.2 ⟨(by decide : 5 ≤ 8), controlId_fits hp⟩

/-- In a ready state with a control frame at the head of the queue STEP completes, and its cycle decodes that frame. -/
theorem step_controlFrame {s : State} {v c : Word} {e : Bool} {q : List Frame} (hr : s.Ready)
    (hq : s.rxQueue = controlFrame s.cfg v c e :: q) (fv fc : Word) :
    ∃ u, exec (.step fv fc) s = .next u ∧ u.regs.setpointVoltage = v ∧ u.regs.setpointCurrent = c ∧
      u.regs.enable = e ∧ u.rxQueue = q := by
  have hfits : s.AnswerFits := by
    intro f hf
    rw [State.answer, hq] at hf
    cases hf
    exact controlFrame_fits hr.cfg_legal v c e
  exact ⟨_, stepSensesAndTicks s fv fc hr hfits, afterCycle_controlFrame hq⟩

/-- Settles O45: CTRL queues the control frame, which the cycle of STEP polls and decodes. -/
theorem controlFrameRoundTrip : Obligations.ControlFrameRoundTrip := by
  refine ⟨controlFrame_class, fun s v c fv fc e hr hq => ?_⟩
  have hqueue : (s.enqueue (controlFrame s.cfg v c e)).rxQueue = [controlFrame s.cfg v c e] := by
    rw [State.enqueue_rxQueue, hq, List.nil_append]
  have hready : (s.enqueue (controlFrame s.cfg v c e)).Ready := { hr with }
  obtain ⟨u, hu⟩ := step_controlFrame hready hqueue fv fc
  exact ⟨_, u, execRxq_of_fits hr.between (controlFrame_fits hr.cfg_legal v c e), hu⟩

end Sys2Proof.Machine
end

section
/-! The host operations between cycles and inside one (R181 to R187), and the parameters once RESET has run (R186). -/

namespace Sys2Proof.Machine

/-- Settles O20: SENSE's one write is the update of the statement. -/
theorem senseWritesFeedback : Obligations.SenseWritesFeedback := fun _ _ _ hb =>
  betweenCycles_of_between hb _

/-- Settles O21: a frame of at most 8 bytes under an identifier that fits is refused for nothing (R207). -/
theorem rxqQueuesFrame : Obligations.RxqQueuesFrame := fun _ _ _ hb hlen hid =>
  execRxq_of_fits hb (frameProblem_eq_none.2 ⟨hlen, hid⟩)

/-- Settles O23: CONFIG's one write is the update of the statement. -/
theorem configFixesParameters : Obligations.ConfigFixesParameters := fun _ _ hb hr hp =>
  execConfig_of_legal hb hr hp

/-- Settles O31: each host operation starts with the guard of the cycle boundary; STEP and BOOT stop at that of their
first half. -/
theorem hostOperationsRefusedInCycle : Obligations.HostOperationsRefusedInCycle := by
  intro i s hi hs
  cases i with
  | tick | sense | rxq | config | reset | ctrl => exact betweenCycles_of_not_between hs _
  | step v c =>
    have hsense : execSense v c s = .refused .hostOperationInCycle := betweenCycles_of_not_between hs _
    rw [exec, execStep, hsense, andThen_refused]
  | boot n =>
    have hconfig : execConfig { minCurrent := some n } s = .refused .hostOperationInCycle :=
      betweenCycles_of_not_between hs _
    rw [exec, execBoot, hconfig, andThen_refused]
  | advanceIdle | advanceCc | advanceCv | advanceInvalid | vloopIdle | vloopCc | vloopCv | regulateInvalid | iloopIdle
  | iloopCc | iloopCv | encHeartbeat | encStatus | rxNone | rxOther | ctrlBadlen | ctrlBaden | ctrlOk => cases hi

/-! ### The parameters past RESET (R186, R189) -/

/-- The host has run RESET (or a first TICK), and the parameters in force are `p`. -/
structure State.RunningWith (p : Params) (s : State) : Prop where
  running : s.stage = .running
  cfg : s.cfg = p

theorem runningWith_keptInside (p : Params) : KeptInside (State.RunningWith p) := by
  intro i s t hi h hs
  cases exec_insideEffect hi h <;> exact { hs with }

/-- A cycle begins in stage running and leaves it, and the parameters, alone. -/
theorem cycle_runningWith {p : Params} {s t : State} (h : cycle s.beginCycle = .next t) (hs : s.cfg = p) :
    t.RunningWith p := by
  refine (runningWith_keptInside p).cycle (fun u v hp hu => ?_) (fun _ hu => { hu with }) h ⟨rfl, hs⟩
  obtain ⟨-, rfl⟩ := poll_eq_ok.1 hp
  exact { hu with }

/-- CONFIG, alone or in BOOT, does not complete past RESET (R189). -/
theorem execConfig_ne_next_of_running {s t : State} {a : ConfigArgs} (hr : s.stage = .running) :
    execConfig a s ≠ .next t := by
  intro h
  obtain ⟨hb, -⟩ := betweenCycles_eq_next.1 h
  rw [execConfig_of_running hb hr] at h
  cases h

/-- Past RESET every operation leaves the parameters and the stage. -/
theorem exec_runningWith {p : Params} {i : Instr} {s t : State} (h : exec i s = .next t) (hs : s.RunningWith p) :
    t.RunningWith p := by
  cases hi : i.isHostOp with
  | false => exact runningWith_keptInside p i s t hi h hs
  | true =>
    cases exec_hostEffect hi h with
    | tick hb hc => exact cycle_runningWith hc hs.cfg
    | step v c hb hc => exact cycle_runningWith hc hs.cfg
    | sense | rxq | ctrl => exact { hs with }
    | config a hl => exact absurd h (execConfig_ne_next_of_running hs.running)
    | boot n hl =>
      obtain ⟨u, hu, -⟩ := andThen_eq_next.1 h
      exact absurd hu (execConfig_ne_next_of_running hs.running)
    | reset => exact ⟨rfl, hs.cfg⟩

/-- The fetch leaves the stage, at a boundary or inside a cycle. -/
theorem fetch_op_stage {s t : State} {i : Instr} (h : fetch s = .op i t) : t.stage = s.stage := by
  by_cases hs : s.slot = .between
  · obtain ⟨⟨ls, rfl⟩, -⟩ := fetch_between_op hs h
    rfl
  · obtain ⟨-, -, hstage, -⟩ := fetch_inside_op hs h
    exact hstage

theorem fetch_skip_stage {s t : State} (h : fetch s = .skip t) : t.stage = s.stage := by
  obtain ⟨-, ls, rfl⟩ | ⟨-, rfl⟩ := fetch_eq_skip h
  · rfl
  · rfl

/-- Settles O51: neither the fetch nor the sequencer writes a parameter or the stage, and past RESET no operation
does. -/
theorem parametersConstantFromReset : Obligations.ParametersConstantFromReset := by
  intro s t hr h
  obtain ⟨-, ⟨-, rfl⟩ | hskip | ⟨i, u, v, hf, hx, rfl⟩⟩ := step_eq_next h
  · exact ⟨rfl, hr⟩
  · exact ⟨fetch_skip_cfg hskip, (fetch_skip_stage hskip).trans hr⟩
  · obtain ⟨hrunning, hcfg⟩ := exec_runningWith hx ⟨(fetch_op_stage hf).trans hr, fetch_op_cfg hf⟩
    exact ⟨(retire_cfg _ _ _).trans hcfg, (retire_stage _ _ _).trans hrunning⟩

end Sys2Proof.Machine
end

section
/-! A TICK that completes: when it does (R180, R206), and how many events of each kind it holds (R188). -/

namespace Sys2Proof.Machine

/-! ### The reads of a cycle (R206, R236) -/

/-- Every feedback register that a cycle from these registers reads is written, phase by phase. -/
structure Regs.ReadsWritten (r : Regs) : Prop where
  advance_voltage : r.opState = OpState.constantCurrent → r.feedbackVoltageWritten = true
  advance_current : r.opState = OpState.constantVoltage → r.feedbackCurrentWritten = true
  loop_current : nextOp r = OpState.constantCurrent → r.feedbackCurrentWritten = true
  loop_voltage : nextOp r = OpState.constantVoltage → r.feedbackVoltageWritten = true
  status : entryNet r = NetState.operate → r.feedbackVoltageWritten = true ∧ r.feedbackCurrentWritten = true

theorem Regs.ReadsWritten.of_written {r : Regs} (hv : r.feedbackVoltageWritten = true)
    (hc : r.feedbackCurrentWritten = true) : r.ReadsWritten :=
  ⟨fun _ => hv, fun _ => hc, fun _ => hc, fun _ => hv, fun _ => ⟨hv, hc⟩⟩

/-- No first unwritten register among two: both are written. -/
theorem both_written_of_none {v c : Bool} {f g : Fault}
    (h : (if v = false then some f else if c = false then some g else none) = none) : v = true ∧ c = true := by
  cases v with
  | false => cases h
  | true =>
    cases c with
    | false => cases h
    | true => exact ⟨rfl, rfl⟩

/-- The table of first unwritten reads misses none: in a charging entry state it asks for both registers, in Idle for the
current that ConstantCurrent will regulate, in the invalid state for those of the status frame. -/
theorem readsWritten_of_firstUnwritten {r : Regs} (h : firstUnwritten r = none) : r.ReadsWritten := by
  rcases opState_cases r.opState with ho | ho | ho | ho
  · have hn : entryNet r ≠ NetState.operate :=
      entryNet_of_idle ho ▸ (by decide : NetState.preOperate ≠ NetState.operate)
    cases he : r.enable with
    | false => constructor <;> simp [ho, nextOp, he, hn]
    | true =>
      have hc : r.feedbackCurrentWritten = true := by simpa [firstUnwritten, ho, he] using h
      constructor <;> simp [ho, nextOp, he, hn, hc]
  · simp only [firstUnwritten, ho, opState_distinct, if_true, if_false] at h
    obtain ⟨hv, hc⟩ := both_written_of_none h
    exact .of_written hv hc
  · simp only [firstUnwritten, ho, opState_distinct, if_true, if_false] at h
    obtain ⟨hc, hv⟩ := both_written_of_none h
    exact .of_written hv hc
  · simp only [firstUnwritten, ho, opState_distinct, if_false, ite_eq_right_iff] at h
    have hp : nextOp r = OpState.invalid := by simp [nextOp, ho]
    exact ⟨by simp [ho], by simp [ho], by simp [hp], by simp [hp],
      fun hn => both_written_of_none (h (entryNet_of_invalid ho ▸ hn))⟩

/-! ### Each phase completes when its reads are there -/

theorem advance_of_reads {s : State} (hr : s.regs.ReadsWritten) : ∃ t, advance s = .next t := by
  rcases opState_cases s.regs.opState with ho | ho | ho | ho
  · exact ⟨_, advance_of_idle ho⟩
  · exact ⟨_, advance_of_cc ho (hr.advance_voltage ho)⟩
  · exact ⟨_, advance_of_cv ho (hr.advance_current ho)⟩
  · exact ⟨_, advance_of_invalid ho⟩

theorem regulate_of_reads {s : State}
    (hc : s.regs.opState = OpState.constantCurrent → s.regs.feedbackCurrentWritten = true)
    (hv : s.regs.opState = OpState.constantVoltage → s.regs.feedbackVoltageWritten = true) :
    ∃ t, regulate s = .next t := by
  rcases opState_cases s.regs.opState with ho | ho | ho | ho
  · exact ⟨_, regulate_of_idle ho⟩
  · exact ⟨_, regulate_of_cc ho (hc ho)⟩
  · exact ⟨_, regulate_of_cv ho (hv ho)⟩
  · exact ⟨_, regulate_of_invalid ho⟩

theorem execEncStatus_of_reads {s : State}
    (h : s.regs.netState = NetState.operate →
      s.regs.feedbackVoltageWritten = true ∧ s.regs.feedbackCurrentWritten = true) :
    ∃ t, execEncStatus s = .next t := by
  by_cases hn : s.regs.netState = NetState.operate
  · obtain ⟨hv, hc⟩ := h hn
    exact ⟨_, execEncStatus_of_operate hn hv hc⟩
  · exact ⟨_, execEncStatus_of_not_operate hn⟩

/-- In every state, the invalid one included, ADVANCE leaves the registers of the tables. -/
theorem advance_next_regs {s t : State} (h : advance s = .next t) : t.regs = s.advanced.regs := by
  by_cases ho : s.regs.opState = OpState.invalid
  · rw [advance_of_invalid ho] at h
    cases h
    rw [State.advanced_of_invalid ho, State.report_regs]
  · cases advance_next_of_valid ho h
    rfl

theorem advance_regulate_of_reads {s : State} (hr : s.regs.ReadsWritten) :
    ∃ u, advance s = .next u ∧ regulate u = .next s.controlled := by
  obtain ⟨u, ha⟩ := advance_of_reads hr
  obtain ⟨t, ht⟩ : ∃ t, regulate u = .next t := by
    apply regulate_of_reads <;> rw [advance_next_regs ha]
    · exact hr.loop_current
    · exact hr.loop_voltage
  exact ⟨u, ha, advance_regulate_next ha ht ▸ ht⟩

/-- A state that holds no unused network state enters none (R80). -/
theorem entryNet_ne_unused {r : Regs} (h : r.netState ≠ NetState.unused) : entryNet r ≠ NetState.unused := by
  unfold entryNet
  split_ifs
  · decide
  · exact h
  · decide

/-- A cycle completes when what it reads is written, its network state has a code and the poll's answer fits. -/
theorem cycle_of_reads {s : State} (hr : s.regs.ReadsWritten) (hn : s.regs.netState ≠ NetState.unused)
    (hf : s.AnswerFits) : ∃ t, cycle s = .next t := by
  obtain ⟨s1, h1, h2⟩ := advance_regulate_of_reads hr
  obtain ⟨c, hc⟩ := hbCode_exists (p := s.cfg) (entryNet_ne_unused hn)
  have h3 := execEncHeartbeat_of_code (s := s.controlled) hc
  obtain ⟨s4, h4⟩ := execEncStatus_of_reads (s := s.controlled.tx (heartbeatFrame s.cfg c)) hr.status
  have hf4 : s4.AnswerFits := by
    cases encoders_next (r := s.regs) h3 h4 rfl rfl rfl
    exact hf
  exact ⟨_, andThen_eq_next.2 ⟨s1, h1, andThen_eq_next.2 ⟨_, h2, andThen_eq_next.2 ⟨_, h3,
    andThen_eq_next.2 ⟨s4, h4, andThen_eq_next.2 ⟨_, receive_of_fits hf4, rfl⟩⟩⟩⟩⟩⟩

/-- Settles O32: with no unwritten read ahead the cycle completes, and a TICK that completes leaves what the tables
say. -/
theorem tickEffect : Obligations.TickEffect := by
  intro s hr hu hf
  obtain ⟨t, ht⟩ := cycle_of_reads (s := s.beginCycle) (readsWritten_of_firstUnwritten hu) hr.net_used hf
  have hx : execTick s = .next t := (execTick_of_booted hr.between hr.booted hr.cfg_legal).trans ht
  exact execTick_next_afterCycle hx ▸ hx

/-! ### The events of a cycle, counted (R188) -/

/-- A cycle polls once: its other events are reports, commands and frames. -/
theorem cycleTrace_filter_isPoll (p : Params) (r : Regs) (a : Option Frame) :
    (cycleTrace p r a).filter Event.isPoll = [.rxPoll a] := by
  have hact : Event.isPoll ∘ Event.act = fun _ => false := rfl
  have htx : Event.isPoll ∘ Event.tx = fun _ => false := rfl
  have hreport : Event.isPoll ∘ Event.report = fun _ => false := rfl
  have hpoll : Event.isPoll (.rxPoll a) = true := rfl
  simp [cycleTrace, List.filter_map, hact, htx, hreport, hpoll]

/-- The reports of a cycle are those of the state machine and regulation, then that of the decode. -/
theorem cycleTrace_filter_isReport (p : Params) (r : Regs) (a : Option Frame) :
    (cycleTrace p r a).filter Event.isReport = (stateReports r ++ decodeReports p a).map .report := by
  have hact : Event.isReport ∘ Event.act = fun _ => false := rfl
  have htx : Event.isReport ∘ Event.tx = fun _ => false := rfl
  have hreport : Event.isReport ∘ Event.report = fun _ => true := rfl
  have hpoll : Event.isReport (.rxPoll a) = false := rfl
  simp [cycleTrace, List.filter_map, hact, htx, hreport, hpoll]

theorem commands_length_le (r : Regs) : (commands r).length ≤ 2 := by
  unfold commands
  split_ifs <;> simp

theorem stateReports_length_le (r : Regs) : (stateReports r).length ≤ 2 := by
  unfold stateReports
  split_ifs <;> simp

theorem decodeReports_length_le (p : Params) (a : Option Frame) : (decodeReports p a).length ≤ 1 := by
  unfold decodeReports
  split
  · simp
  · split_ifs <;> simp

/-- With a heartbeat code the frames are the heartbeat, and at most the status frame after it. -/
theorem framesSent_length {p : Params} {r : Regs} {c : Byte} (hc : hbCode p (entryNet r) = some c) :
    1 ≤ (framesSent p r).length ∧ (framesSent p r).length ≤ 2 := by
  rw [framesSent_of_code hc]
  split_ifs <;> simp

/-- Settles O40: a completed TICK leaves the trace of the tables, whose parts are bounded one by one. -/
theorem cycleBounds : Obligations.CycleBounds := by
  intro s t h
  obtain ⟨c, hc⟩ := execTick_next_hbCode h
  obtain ⟨htx1, htx2⟩ := framesSent_length hc
  cases execTick_next_afterCycle h
  have htrace : (afterCycle s).trace = cycleTrace s.cfg s.regs s.answer := rfl
  simp only [countEvents, htrace, cycleTrace_filter_isAct, cycleTrace_filter_isTx, cycleTrace_filter_isPoll,
    cycleTrace_filter_isReport, List.length_map, List.length_append, List.length_singleton]
  refine ⟨commands_length_le _, htx1, htx2, trivial, ?_⟩
  exact Nat.add_le_add (stateReports_length_le _) (decodeReports_length_le _ _)

end Sys2Proof.Machine
end

section
/-! The sequencer run operation by operation from the start of a cycle ends as TICK does (R21, R79, R180). From every slot
of a cycle the steps reach what is left of the cycle, because the operations inside a cycle do not read the slot. -/

namespace Sys2Proof.Machine

/-! ### The operation a key selects is the one the phase runs (R79) -/

theorem decode_sel_advance (v : BitVec 2) :
    ∃ i, decode (.sel (selKey 0b00 v)) = .ok i ∧ ∀ s : State, s.regs.opState = v → advance s = exec i s := by
  rcases opState_cases v with rfl | rfl | rfl | rfl
  · exact ⟨.advanceIdle, by decide, fun s h => by simp [advance, h, exec]⟩
  · exact ⟨.advanceCc, by decide, fun s h => by simp [advance, h, exec]⟩
  · exact ⟨.advanceCv, by decide, fun s h => by simp [advance, h, exec]⟩
  · exact ⟨.advanceInvalid, by decide, fun s h => by simp [advance, h, exec]⟩

theorem decode_sel_vloop {v : BitVec 2} (hv : v ≠ OpState.invalid) :
    ∃ i, decode (.sel (selKey 0b01 v)) = .ok i ∧ i ≠ .regulateInvalid ∧ vloop v = exec i := by
  rcases opState_cases v with rfl | rfl | rfl | rfl
  · exact ⟨.vloopIdle, by decide, by decide, rfl⟩
  · exact ⟨.vloopCc, by decide, by decide, rfl⟩
  · exact ⟨.vloopCv, by decide, by decide, rfl⟩
  · exact absurd rfl hv

theorem decode_sel_iloop {v : BitVec 2} (hv : v ≠ OpState.invalid) :
    ∃ i, decode (.sel (selKey 0b10 v)) = .ok i ∧ iloop v = exec i := by
  rcases opState_cases v with rfl | rfl | rfl | rfl
  · exact ⟨.iloopIdle, by decide, rfl⟩
  · exact ⟨.iloopCc, by decide, rfl⟩
  · exact ⟨.iloopCv, by decide, rfl⟩
  · exact absurd rfl hv

theorem decode_tx_heartbeat (k : BitVec 1) : decode (.tx k 0) = .ok .encHeartbeat := by
  revert k
  decide

/-- The key of a poll's answer selects the class DEC_CONTROL runs (R161). -/
theorem decode_rx_decControl (s : State) :
    ∃ i, decode (.rx (rxKey s.cfg s.rxAnswer)) = .ok i ∧ decControl s = exec i s := by
  refine ⟨_, inboundKeySelectsByOrderedTests s.cfg s.rxAnswer, ?_⟩
  unfold decControl
  cases s.rxAnswer with
  | none => rfl
  | some f =>
    simp only [← hasValidEnable_iff, Frame.len, Config.ctrlMinLen]
    by_cases hid : f.id = s.cfg.controlId
    · by_cases hlen : f.data.length < 5
      · simp [hid, hlen, exec]
      · by_cases hv : hasValidEnable f = true <;> simp [hid, hlen, hv, exec]
    · simp [hid, exec]

/-! ### The operations inside a cycle do not read the slot -/

/-- The operation answers the same from every slot, and leaves the slot as it is. -/
def SlotFree (f : State → Result) : Prop :=
  ∀ (x : Slot) (s : State), f (s.setSlot x) = andThen (f s) fun t => .next (t.setSlot x)

theorem slotFree_exec {i : Instr} (hi : i.isHostOp = false) : SlotFree (exec i) := by
  intro x s
  cases i with
  | advanceIdle | advanceInvalid | vloopIdle | vloopCc | regulateInvalid | iloopIdle | iloopCv | rxNone | rxOther => rfl
  | advanceCc =>
    simp only [exec, execAdvanceCc, State.setSlot_regs]
    cases readFeedbackVoltage .r102 s.regs <;> rfl
  | advanceCv =>
    simp only [exec, execAdvanceCv, State.setSlot_regs]
    cases readFeedbackCurrent .r103 s.regs with
    | error f => rfl
    | ok c => cases hle : atMost c s.regs.minCurrent <;> (simp only [hle]; rfl)
  | vloopCv =>
    simp only [exec, execVloopCv, State.setSlot_regs]
    cases readFeedbackVoltage .r123 s.regs with
    | error f => rfl
    | ok v => cases hd : differs v s.regs.setpointVoltage <;> (simp only [hd]; rfl)
  | iloopCc =>
    simp only [exec, execIloopCc, State.setSlot_regs]
    cases readFeedbackCurrent .r125 s.regs with
    | error f => rfl
    | ok c => cases hd : differs c s.regs.setpointCurrent <;> (simp only [hd]; rfl)
  | encHeartbeat =>
    simp only [exec, execEncHeartbeat, State.setSlot_regs, State.setSlot_cfg]
    cases hbCode s.cfg s.regs.netState <;> rfl
  | encStatus =>
    by_cases hn : s.regs.netState = NetState.operate
    · cases hv : s.regs.feedbackVoltageWritten with
      | false => simp [exec, execEncStatus_of_voltage_unwritten, hn, hv]
      | true =>
        cases hc : s.regs.feedbackCurrentWritten with
        | false => simp [exec, execEncStatus_of_current_unwritten, hn, hv, hc]
        | true =>
          simp [exec, execEncStatus_of_operate, hn, hv, hc]
          rfl
    · have hx : execEncStatus (s.setSlot x) = .next (s.setSlot x) := execEncStatus_of_not_operate hn
      simp only [exec, hx, execEncStatus_of_not_operate hn, andThen_next]
  | ctrlBadlen =>
    simp only [exec, execCtrlBadlen, State.setSlot_rxAnswer]
    cases s.rxAnswer <;> rfl
  | ctrlBaden =>
    simp only [exec, execCtrlBaden, State.setSlot_rxAnswer]
    cases s.rxAnswer <;> rfl
  | ctrlOk =>
    simp only [exec, execCtrlOk, State.setSlot_rxAnswer]
    repeat' split
    all_goals rfl
  | tick | sense | rxq | config | reset | ctrl | step | boot => cases hi

/-- The operation that takes the poll's answer does not read the slot either, nor does a poll that stops. -/
theorem slotFree_receive : SlotFree receive := by
  intro x s
  cases hp : poll s with
  | error r =>
    have hx : poll (s.setSlot x) = .error r := poll_eq_error.2 (poll_eq_error (s := s).1 hp)
    simp only [receive, hp, hx, andThen_refused]
  | ok t =>
    obtain ⟨hf, -⟩ := poll_eq_ok.1 hp
    rw [receive_of_fits (s := s.setSlot x) hf, receive_of_fits hf]
    rfl

/-- What overwrites the slot afterwards cannot tell from which slot the operation ran. -/
theorem SlotFree.andThen_eq {f k : State → Result} (hf : SlotFree f) {x : Slot} (hk : ∀ t, k (t.setSlot x) = k t)
    (s : State) : andThen (f (s.setSlot x)) k = andThen (f s) k := by
  rw [hf x s, andThen_assoc]
  exact congrArg (andThen (f s)) (funext hk)

/-! ### What one step inside a cycle runs -/

theorem State.Launchable.setSlot {s : State} (h : s.Launchable) (x : Slot) : (s.setSlot x).Launchable := { h with }

theorem fetchKey_of_decode {c : Code} {i : Instr} (h : decode c = .ok i) (s : State) : fetchKey c s = .op i s := by
  simp only [fetchKey, h]

theorem step_of_fetch_op {s t : State} {i : Instr} (hl : s.Launchable) (h : fetch s = .op i t) :
    step s = andThen (exec i t) fun u => .next (retire s.slot i u) := by
  simp only [step, launchable_iff.1 hl, h]

/-- A step inside a cycle runs the operation its key selects and moves the sequencer to the slot after it. -/
theorem step_of_fetch_inside {s : State} {x y : Slot} {i : Instr} (hl : s.Launchable)
    (hf : fetch (s.setSlot x) = .op i (s.setSlot x)) (hx : x ≠ .between) (hy : ∀ t, retire x i t = t.setSlot y) :
    step (s.setSlot x) = andThen (exec i s) fun t => .next (t.setSlot y) := by
  obtain ⟨-, -, -, -, hi⟩ := fetch_inside_op (s := s.setSlot x) hx hf
  rw [step_of_fetch_op (hl.setSlot x) hf, (slotFree_exec hi).andThen_eq]
  · simp only [State.setSlot_slot, hy]
  · intro t
    simp only [State.setSlot_slot, hy]
    rfl

section
variable {s : State} (hl : s.Launchable)
include hl

theorem step_advance : step (s.setSlot .advance) = andThen (advance s) fun t => .next (t.setSlot .vloop) := by
  obtain ⟨i, hi, hx⟩ := decode_sel_advance s.regs.opState
  rw [hx s rfl]
  exact step_of_fetch_inside hl (fetchKey_of_decode hi _) (by decide) fun _ => rfl

/-- REGULATE.INVALID is the whole of regulation, and the sequencer skips the current loop (R128). -/
theorem step_vloop_of_invalid (ho : s.regs.opState = OpState.invalid) :
    step (s.setSlot .vloop) = andThen (regulate s) fun t => .next (t.setSlot .heartbeat) := by
  have hi : decode (.sel (selKey 0b01 s.regs.opState)) = .ok .regulateInvalid := by
    rw [ho]
    decide
  rw [regulate, if_pos ho]
  exact step_of_fetch_inside (x := .vloop) hl (fetchKey_of_decode hi _) (by decide) fun _ => rfl

theorem step_vloop (ho : s.ValidOp) :
    step (s.setSlot .vloop) = andThen (vloop s.regs.opState s) fun t => .next (t.setSlot .iloop) := by
  obtain ⟨i, hi, hne, hx⟩ := decode_sel_vloop ho
  rw [hx]
  refine step_of_fetch_inside hl (fetchKey_of_decode hi _) (by decide) fun t => ?_
  rw [retire, if_neg hne]

theorem step_iloop (ho : s.ValidOp) :
    step (s.setSlot .iloop) = andThen (iloop s.regs.opState s) fun t => .next (t.setSlot .heartbeat) := by
  obtain ⟨i, hi, hx⟩ := decode_sel_iloop ho
  rw [hx]
  exact step_of_fetch_inside hl (fetchKey_of_decode hi _) (by decide) fun _ => rfl

theorem step_heartbeat :
    step (s.setSlot .heartbeat) = andThen (execEncHeartbeat s) fun t => .next (t.setSlot .status) :=
  step_of_fetch_inside (x := .heartbeat) hl (fetchKey_of_decode (decode_tx_heartbeat _) _) (by decide) fun _ => rfl

/-- With the gate closed the step passes the slot, and ENC_STATUS does nothing (R142, R146). -/
theorem step_status : step (s.setSlot .status) = andThen (execEncStatus s) fun t => .next (t.setSlot .poll) := by
  by_cases hn : s.regs.netState = NetState.operate
  · have hi : decode (.tx (txKey s.regs) 1) = .ok .encStatus := by
      rw [txKey, hn]
      decide
    have hf : fetch (s.setSlot .status) = .op .encStatus (s.setSlot .status) := by
      simp only [fetch, State.setSlot_slot, State.setSlot_regs, hi]
    exact step_of_fetch_inside hl hf (by decide) fun _ => rfl
  · have hi : decode (.tx (txKey s.regs) 1) = .error .gateClosed := by
      rw [txKey, decide_eq_false hn]
      decide
    have hf : fetch (s.setSlot .status) = .skip (s.setSlot .poll) := by
      simp only [fetch, State.setSlot_slot, State.setSlot_regs, hi]
      rfl
    simp only [step, launchable_iff.1 (hl.setSlot _), hf, execEncStatus_of_not_operate hn, andThen_next]

theorem step_poll : step (s.setSlot .poll) = andThen (receive s) fun t => .next t.endCycle := by
  rw [← slotFree_receive.andThen_eq (x := .poll) fun _ => rfl]
  cases hp : poll (s.setSlot .poll) with
  | error r =>
    have hf : fetch (s.setSlot .poll) = .stop r := by simp only [fetch, State.setSlot_slot, hp]
    simp only [step, launchable_iff.1 (hl.setSlot _), hf, receive, hp, andThen_refused]
  | ok t =>
    obtain ⟨i, hi, hx⟩ := decode_rx_decControl t
    have hf : fetch (s.setSlot .poll) = .op i t := by
      simp only [fetch, State.setSlot_slot, hp, fetchKey_of_decode hi]
    rw [step_of_fetch_op (hl.setSlot _) hf]
    simp only [receive, hp, hx]
    rfl

end

/-! ### What is left of a cycle from each slot on (R180) -/

def fromPoll (s : State) : Result := andThen (receive s) fun t => .next t.endCycle

def fromStatus (s : State) : Result := andThen (execEncStatus s) fromPoll

def fromHeartbeat (s : State) : Result := andThen (execEncHeartbeat s) fromStatus

def fromIloop (s : State) : Result := andThen (iloop s.regs.opState s) fromHeartbeat

def fromVloop (s : State) : Result := andThen (regulate s) fromHeartbeat

theorem cycle_eq_fromVloop (s : State) : cycle s = andThen (advance s) fromVloop := rfl

/-- The voltage loop writes no operating state, so the current loop runs on the same one (R120). -/
theorem vloop_next_opState {v : BitVec 2} {s t : State} (h : vloop v s = .next t) : t.regs.opState = s.regs.opState := by
  unfold vloop at h
  split_ifs at h
  · cases h
    rfl
  · cases h
    rfl
  · obtain ⟨-, rfl⟩ := execVloopCv_eq_next.1 h
    split <;> rfl

theorem fromVloop_of_valid {s : State} (ho : s.ValidOp) :
    fromVloop s = andThen (vloop s.regs.opState s) fromIloop := by
  rw [fromVloop, regulate, if_neg ho, andThen_assoc]
  cases hv : vloop s.regs.opState s with
  | next t => rw [andThen_next, andThen_next, fromIloop, vloop_next_opState hv]
  | fault f => rfl
  | refused r => rfl

/-! ### The run -/

/-- In at most `n` steps from `s` the machine answers that outcome. -/
def RunsTo (n : Nat) (s : State) (o : Result) : Prop := ∃ k, k ≤ n ∧ Sys2Proof.core.run k s = o

theorem core_run_succ (k : Nat) (s : State) :
    Sys2Proof.core.run (k + 1) s = andThen (step s) (Sys2Proof.core.run k) := by
  have hstep : Sys2Proof.core.step s = step s := rfl
  cases h : step s <;> (simp only [Host.Core.run, hstep, h]; rfl)

theorem RunsTo.refl (n : Nat) (s : State) : RunsTo n s (.next s) := ⟨0, n.zero_le, rfl⟩

theorem RunsTo.mono {n m : Nat} {s : State} {o : Result} (h : RunsTo n s o) (hnm : n ≤ m) : RunsTo m s o := by
  obtain ⟨k, hk, hrun⟩ := h
  exact ⟨k, hk.trans hnm, hrun⟩

/-- One step runs an operation, and the run goes on where it answers a next state. -/
theorem RunsTo.of_step {n : Nat} {s : State} {o : Result} {f : State → State} {k : State → Result}
    (h : step s = andThen o fun t => .next (f t)) (hk : ∀ t, o = .next t → RunsTo n (f t) (k t)) :
    RunsTo (n + 1) s (andThen o k) := by
  cases o with
  | next t =>
    obtain ⟨j, hj, hrun⟩ := hk t rfl
    exact ⟨j + 1, Nat.succ_le_succ hj, by rw [core_run_succ, h]; exact hrun⟩
  | fault g => exact ⟨1, by omega, by rw [core_run_succ, h]; rfl⟩
  | refused r => exact ⟨1, by omega, by rw [core_run_succ, h]; rfl⟩

section
variable {s : State} (hl : s.Launchable)
include hl

theorem runsTo_fromPoll : RunsTo 1 (s.setSlot .poll) (fromPoll s) :=
  .of_step (step_poll hl) fun t _ => .refl 0 t.endCycle

theorem runsTo_fromStatus : RunsTo 2 (s.setSlot .status) (fromStatus s) :=
  .of_step (step_status hl) fun t ht => runsTo_fromPoll (launchable_keptInside .encStatus s t rfl ht hl)

theorem runsTo_fromHeartbeat : RunsTo 3 (s.setSlot .heartbeat) (fromHeartbeat s) :=
  .of_step (step_heartbeat hl) fun t ht => runsTo_fromStatus (launchable_keptInside .encHeartbeat s t rfl ht hl)

theorem runsTo_fromIloop (ho : s.ValidOp) : RunsTo 4 (s.setSlot .iloop) (fromIloop s) :=
  .of_step (step_iloop hl ho) fun _ ht =>
    runsTo_fromHeartbeat (launchable_keptInside.of_eq_exec (iloop_eq_exec _ s) ht hl)

/-- Four steps from here in the invalid state, five in the others. -/
theorem runsTo_fromVloop : RunsTo 5 (s.setSlot .vloop) (fromVloop s) := by
  by_cases ho : s.regs.opState = OpState.invalid
  · have h4 : RunsTo 4 (s.setSlot .vloop) (fromVloop s) :=
      .of_step (step_vloop_of_invalid hl ho) fun t ht => runsTo_fromHeartbeat (launchable_keptInside.regulate ht hl)
    exact h4.mono (by omega)
  · rw [fromVloop_of_valid ho]
    refine .of_step (step_vloop hl ho) fun t ht => ?_
    have hlt : t.Launchable := launchable_keptInside.of_eq_exec (vloop_eq_exec _ s) ht hl
    exact runsTo_fromIloop hlt (by rwa [State.ValidOp, vloop_next_opState ht])

theorem runsTo_cycle : RunsTo 6 (s.setSlot .advance) (cycle s) := by
  rw [cycle_eq_fromVloop]
  exact .of_step (step_advance hl) fun _ ht =>
    runsTo_fromVloop (launchable_keptInside.of_eq_exec (advance_eq_exec s) ht hl)

end

/-- Settles O35: the six slots of a cycle run what TICK runs in sequence, and a ready state with a used `last_action` is
launchable. -/
theorem tickIsItsOperationsInOrder : Obligations.TickIsItsOperationsInOrder := by
  intro s hr ha
  have hl : s.beginCycle.Launchable := ⟨hr.net_used, ha, hr.cfg_legal⟩
  obtain ⟨k, hk, hrun⟩ := runsTo_cycle hl
  exact ⟨k, hk, hrun.trans (execTick_of_booted hr.between hr.booted hr.cfg_legal).symm⟩

end Sys2Proof.Machine
end

section
/-! The first read of an unwritten feedback register (R206, R236): each operation that reads one faults, and a cycle
ends at the first of its phases that does. -/

namespace Sys2Proof.Machine

/-- Settles O34: each operation stops at its read, and ENC_STATUS reads the voltage before the current. -/
theorem unwrittenReadsFault : Obligations.UnwrittenReadsFault := fun _ =>
  ⟨fun hv => ⟨execAdvanceCc_of_unwritten hv, execVloopCv_of_unwritten hv,
      fun hn => execEncStatus_of_voltage_unwritten hn hv⟩,
    fun hc => ⟨execAdvanceCv_of_unwritten hc, execIloopCc_of_unwritten hc,
      fun hn hv => execEncStatus_of_current_unwritten hn hv hc⟩⟩

/-! ### The phase that stops a cycle -/

theorem cycle_of_advance_fault {s : State} {f : Fault} (ha : advance s = .fault f) : cycle s = .fault f := by
  rw [cycle_eq_fromVloop, ha, andThen_fault]

section
variable {s u : State} (ha : advance s = .next u)
include ha

theorem cycle_of_regulate_fault {f : Fault} (hr : regulate u = .fault f) : cycle s = .fault f := by
  rw [cycle_eq_fromVloop, ha, andThen_next, fromVloop, hr, andThen_fault]

/-- The current loop runs on the state after the transition, and reads the current there in ConstantCurrent (R125). -/
theorem cycle_of_loop_current_unwritten (ho : nextOp s.regs = OpState.constantCurrent)
    (hc : s.regs.feedbackCurrentWritten = false) : cycle s = .fault (.feedbackUnwritten .current .r125) := by
  have hregs := advance_next_regs ha
  exact cycle_of_regulate_fault ha (regulate_of_cc_unwritten (by rw [hregs]; exact ho) (by rw [hregs]; exact hc))

/-- The voltage loop reads the voltage in ConstantVoltage (R123). -/
theorem cycle_of_loop_voltage_unwritten (ho : nextOp s.regs = OpState.constantVoltage)
    (hv : s.regs.feedbackVoltageWritten = false) : cycle s = .fault (.feedbackUnwritten .voltage .r123) := by
  have hregs := advance_next_regs ha
  exact cycle_of_regulate_fault ha (regulate_of_cv_unwritten (by rw [hregs]; exact ho) (by rw [hregs]; exact hv))

/-- A cycle in Operate whose loops find what they read comes to ENC_STATUS, with the registers of the tables. -/
theorem cycle_eq_fromStatus
    (hc : nextOp s.regs = OpState.constantCurrent → s.regs.feedbackCurrentWritten = true)
    (hv : nextOp s.regs = OpState.constantVoltage → s.regs.feedbackVoltageWritten = true)
    (hn : entryNet s.regs = NetState.operate) :
    cycle s = fromStatus (s.controlled.tx (heartbeatFrame s.cfg s.cfg.hbOperate)) := by
  obtain ⟨t, ht⟩ : ∃ t, regulate u = .next t := by
    apply regulate_of_reads <;> rw [advance_next_regs ha]
    · exact hc
    · exact hv
  cases advance_regulate_next ha ht
  have hcode : hbCode s.cfg (entryNet s.regs) = some s.cfg.hbOperate := hn ▸ rfl
  rw [cycle_eq_fromVloop, ha, andThen_next, fromVloop, ht, andThen_next, fromHeartbeat,
    execEncHeartbeat_of_code (s := s.controlled) hcode, andThen_next]
  rfl

end

theorem fromStatus_of_fault {s : State} {f : Fault} (h : execEncStatus s = .fault f) : fromStatus s = .fault f := by
  rw [fromStatus, h, andThen_fault]

/-! ### The first unwritten read, by entry state -/

/-- The first unwritten register among two is the one, or the other with the one written. -/
theorem first_unwritten_of_some {v c : Bool} {f g k : Fault}
    (h : (if v = false then some f else if c = false then some g else none) = some k) :
    v = false ∧ k = f ∨ v = true ∧ c = false ∧ k = g := by
  cases v with
  | false => cases h; exact .inl ⟨rfl, rfl⟩
  | true =>
    cases c with
    | false => cases h; exact .inr ⟨rfl, rfl, rfl⟩
    | true => cases h

section
variable {s : State} {f : Fault} (h : firstUnwritten s.regs = some f)
include h

/-- From Idle only a start of the charge reads feedback: the current, in the loop of ConstantCurrent. -/
theorem cycle_fault_of_idle (ho : s.regs.opState = OpState.idle) : cycle s = .fault f := by
  simp only [firstUnwritten, ho, if_true, Option.ite_none_right_eq_some, Option.some.injEq] at h
  obtain ⟨⟨he, hc⟩, rfl⟩ := h
  exact cycle_of_loop_current_unwritten (advance_of_idle ho) (by simp [nextOp, ho, he]) hc

/-- From ConstantCurrent ADVANCE reads the voltage; the current is read by its loop or, after the crossing, by
ENC_STATUS. -/
theorem cycle_fault_of_cc (ho : s.regs.opState = OpState.constantCurrent) : cycle s = .fault f := by
  simp only [firstUnwritten, ho, opState_distinct, if_true, if_false] at h
  obtain ⟨hv, rfl⟩ | ⟨hv, hc, rfl⟩ := first_unwritten_of_some h
  · exact cycle_of_advance_fault (advance_of_cc_unwritten ho hv)
  · have ha := advance_of_cc ho hv
    split
    · exact cycle_of_loop_current_unwritten ha ‹_› hc
    · rw [cycle_eq_fromStatus ha (fun hn => absurd hn ‹_›) (fun _ => hv) (entryNet_of_cc ho)]
      exact fromStatus_of_fault (execEncStatus_of_current_unwritten (entryNet_of_cc ho) hv hc)

/-- From ConstantVoltage ADVANCE reads the current; the voltage is read by its loop or, after the end of the charge, by
ENC_STATUS. -/
theorem cycle_fault_of_cv (ho : s.regs.opState = OpState.constantVoltage) : cycle s = .fault f := by
  simp only [firstUnwritten, ho, opState_distinct, if_true, if_false] at h
  obtain ⟨hc, rfl⟩ | ⟨hc, hv, rfl⟩ := first_unwritten_of_some h
  · exact cycle_of_advance_fault (advance_of_cv_unwritten ho hc)
  · have ha := advance_of_cv ho hc
    split
    · exact cycle_of_loop_voltage_unwritten ha ‹_› hv
    · rw [cycle_eq_fromStatus ha (fun _ => hc) (fun hn => absurd hn ‹_›) (entryNet_of_cv ho)]
      exact fromStatus_of_fault (execEncStatus_of_voltage_unwritten (entryNet_of_cv ho) hv)

/-- From the invalid state only ENC_STATUS reads feedback, in the Operate that is held. -/
theorem cycle_fault_of_invalid (ho : s.regs.opState = OpState.invalid) : cycle s = .fault f := by
  simp only [firstUnwritten, ho, opState_distinct, if_false, Option.ite_none_right_eq_some] at h
  obtain ⟨hnet, h⟩ := h
  have hn : entryNet s.regs = NetState.operate := (entryNet_of_invalid ho).trans hnet
  have hp : nextOp s.regs = OpState.invalid := by simp [nextOp, ho]
  rw [cycle_eq_fromStatus (advance_of_invalid ho) (by simp [hp]) (by simp [hp]) hn]
  apply fromStatus_of_fault
  obtain ⟨hv, rfl⟩ | ⟨hv, hc, rfl⟩ := first_unwritten_of_some h
  · exact execEncStatus_of_voltage_unwritten hn hv
  · exact execEncStatus_of_current_unwritten hn hv hc

end

/-- Settles O33: TICK in a ready state is its cycle, and the table names the read that stops the cycle from each of the
four entry states. -/
theorem tickFaultsAtFirstUnwrittenRead : Obligations.TickFaultsAtFirstUnwrittenRead := by
  intro s f hr h
  have hcycle : cycle s.beginCycle = .fault f := by
    rcases opState_cases s.regs.opState with ho | ho | ho | ho
    · exact cycle_fault_of_idle h ho
    · exact cycle_fault_of_cc h ho
    · exact cycle_fault_of_cv h ho
    · exact cycle_fault_of_invalid h ho
  exact (execTick_of_booted hr.between hr.booted hr.cfg_legal).trans hcycle

end Sys2Proof.Machine
end

section
/-! What has no step (R207): launch states with unused codes or an illegal configuration, and frames the transport may
not hand over. -/

namespace Sys2Proof.Machine

/-! ### Frames that do not fit -/

theorem frameProblem_eq_some_of_unfit {p : Params} {f : Frame} (h : 8 < f.data.length ∨ 2 ^ p.idWidth ≤ f.id) :
    ∃ r, frameProblem p f = some r := by
  refine Option.ne_none_iff_exists'.1 fun hnone => ?_
  obtain ⟨hlen, hid⟩ := frameProblem_eq_none.1 hnone
  omega

/-- In its slot a step polls before it runs anything, so where the poll refuses, the step does. -/
theorem step_of_poll_error {s : State} {r : Refusal} (hs : s.slot = .poll) (hp : poll s = .error r) :
    ∃ q, step s = .refused q := by
  by_cases hl : launchProblem s = none
  · exact ⟨r, by simp only [step, hl, fetch, hs, hp]⟩
  · exact step_of_launchProblem hl

/-- No phase before the poll touches the queue, so a TICK that completes has polled a frame that fits. -/
theorem execTick_next_answerFits {s t : State} (h : execTick s = .next t) : s.AnswerFits := by
  obtain ⟨-, hc⟩ := execTick_next h
  obtain ⟨s1, h1, hc⟩ := andThen_eq_next.1 hc
  obtain ⟨s2, h2, hc⟩ := andThen_eq_next.1 hc
  obtain ⟨s3, h3, hc⟩ := andThen_eq_next.1 hc
  obtain ⟨s4, h4, hc⟩ := andThen_eq_next.1 hc
  obtain ⟨s5, h5, -⟩ := andThen_eq_next.1 hc
  cases advance_regulate_next h1 h2
  cases encoders_next (r := s.regs) h3 h4 rfl rfl rfl
  by_contra hf
  obtain ⟨r, hr⟩ := receive_of_not_fits (s := s.beginCycle.controlled.sent s.regs) hf
  rw [hr] at h5
  cases h5

theorem execRxq_of_frameProblem {s : State} {id : Nat} {data : List Byte} {r : Refusal} (hb : s.slot = .between)
    (hf : frameProblem s.cfg ⟨id, data⟩ = some r) : execRxq id data s = .refused r := by
  simp [execRxq, hb, hf]

/-! ### TICK -/

theorem execTick_of_cfg_illegal {s : State} {p : ConfigProblem} (hb : s.slot = .between) (hs : s.stage ≠ .configured)
    (hp : configProblem s.cfg = some p) : execTick s = .refused (.configIllegal p) := by
  simp [execTick, hb, hs, hp]

/-- A cycle in the invalid state reads feedback for the status frame only (R104, R128, R142). -/
theorem firstUnwritten_of_invalid {r : Regs} (ho : r.opState = OpState.invalid) (hn : r.netState ≠ NetState.operate) :
    firstUnwritten r = none := by
  simp [firstUnwritten, ho, hn]

/-- Settles O55: a step tests its launch state first, a frame that does not fit gets past neither the poll nor RXQ, and the
invalid operating state is no reason for a refusal. -/
theorem illegalLaunchAndFramesRefused : Obligations.IllegalLaunchAndFramesRefused := by
  refine ⟨fun s hbad => ?_, fun s f hs ha hbad => ?_, fun s t f ha hbad h => ?_,
    fun s p hb hs hp => execTick_of_cfg_illegal hb hs hp, fun s hr ho hn hf => ?_, fun s id data hb hbad => ?_⟩
  · refine step_of_launchProblem fun hl => ?_
    obtain ⟨hnet, haction, hcfg⟩ := launchProblem_eq_none.1 hl
    obtain hbad | hbad | hbad := hbad
    · exact hnet hbad
    · exact haction hbad
    · exact hbad hcfg
  · obtain ⟨r, hr⟩ := frameProblem_eq_some_of_unfit hbad
    exact step_of_poll_error hs (poll_eq_error.2 ⟨f, ha, hr⟩)
  · obtain ⟨r, hr⟩ := frameProblem_eq_some_of_unfit hbad
    have hfits := execTick_next_answerFits h f ha
    rw [hr] at hfits
    cases hfits
  · exact ⟨_, tickEffect s hr (firstUnwritten_of_invalid ho hn) hf⟩
  · obtain ⟨r, hr⟩ := frameProblem_eq_some_of_unfit (f := ⟨id, data⟩) hbad
    exact ⟨r, execRxq_of_frameProblem hb hr⟩

end Sys2Proof.Machine
end

section
/-! Reset and hazards (70_reset_and_hazards.md): what RESET leaves, the first cycle after it, and the cycles in which a
race or an invalid state shows. -/

namespace Sys2Proof.Machine

/-! ### RESET and the reset state (R230) -/

/-- Settles O26: between cycles RESET is its one update, which loads the reset values and emits nothing. -/
theorem resetRestoresRegisters : Obligations.ResetRestoresRegisters := fun _ hb =>
  ⟨_, execReset_of_between hb, rfl, rfl, rfl, rfl, rfl, rfl, rfl, rfl, rfl, rfl, rfl⟩

/-- Settles O28: field by field; `min_current` is the model's argument, which is the open parameter. -/
theorem resetStateValues : Obligations.ResetStateValues := ⟨rfl, rfl, rfl, rfl, rfl, rfl, rfl, rfl, rfl, rfl⟩

/-- Settles O58: the reset registers hold used codes, the model's arguments are legal, and no frame is queued. -/
theorem resetMeetsInv : Obligations.ResetMeetsInv where
  between := rfl
  net_used := (by decide : NetState.init ≠ NetState.unused)
  action_used := (by decide : ActionKind.stopAll ≠ ActionKind.unused)
  cfg_legal := modelArgs_legal
  args_legal := modelArgs_legal
  min_current := fun _ => rfl
  answer_gone := rfl
  queue_fits := fun _ hf => absurd hf List.not_mem_nil

/-! ### A cycle that stays in Idle, and the first after a reset (R234) -/

theorem nextOp_of_idle {r : Regs} (ho : r.opState = OpState.idle) :
    nextOp r = if r.enable = true then OpState.constantCurrent else OpState.idle := if_pos ho

/-- A cycle that ends in Idle stops both loops (R131). -/
theorem commands_of_nextOp_idle {r : Regs} (hn : nextOp r = OpState.idle) : commands r = [.stopAll, .stopAll] := if_pos hn

theorem lastActionAfter_of_nextOp_idle {r : Regs} (hn : nextOp r = OpState.idle) :
    lastActionAfter r = ActionKind.stopAll := by
  rw [lastActionAfter, commands_of_nextOp_idle hn]
  rfl

theorem stateReports_of_valid {r : Regs} (ho : r.opState ≠ OpState.invalid) : stateReports r = [] := if_neg ho

section
variable {r : Regs} (ho : r.opState = OpState.idle)
include ho

/-- From Idle a cycle sends the PreOperate heartbeat alone (R105, R143). -/
theorem framesSent_of_idle (p : Params) : framesSent p r = [heartbeatFrame p p.hbPreOperate] := by
  have hnet : entryNet r = NetState.preOperate := entryNet_of_idle ho
  have hcode : hbCode p (entryNet r) = some p.hbPreOperate := by rw [hnet]; rfl
  have hgate : NetState.preOperate ≠ NetState.operate := by decide
  rw [framesSent_of_code hcode, hnet, if_neg hgate]

variable (he : r.enable = false)
include he

theorem nextOp_of_idle_disabled : nextOp r = OpState.idle := by simp [nextOp_of_idle ho, he]

/-- An Idle cycle that stays in Idle reads no feedback (R101, R121, R124). -/
theorem firstUnwritten_of_idle_disabled : firstUnwritten r = none := by simp [firstUnwritten, ho, he]

theorem cycleTrace_of_idle_disabled (p : Params) (a : Option Frame) :
    cycleTrace p r a = [.act .stopAll, .act .stopAll, .tx (heartbeatFrame p p.hbPreOperate), .rxPoll a] ++
      (decodeReports p a).map .report := by
  have hvalid : r.opState ≠ OpState.invalid := ho ▸ (by decide : OpState.idle ≠ OpState.invalid)
  rw [cycleTrace, stateReports_of_valid hvalid, commands_of_nextOp_idle (nextOp_of_idle_disabled ho he),
    framesSent_of_idle ho]
  rfl

end

/-- Settles O36: the reset registers are Idle with `enable` false, from which the cycle reads no feedback; what the poll
returns adds reports at the end of the trace at most. -/
theorem firstCycleAfterReset : Obligations.FirstCycleAfterReset := by
  rintro s hr hf ⟨v, c, hregs⟩
  have ho : s.regs.opState = OpState.idle := by rw [hregs]; rfl
  have he : s.regs.enable = false := by rw [hregs]; rfl
  have hn : nextOp s.regs = OpState.idle := nextOp_of_idle_disabled ho he
  refine ⟨_, tickEffect s hr (firstUnwritten_of_idle_disabled ho he) hf, hn, entryNet_of_idle ho,
    lastActionAfter_of_nextOp_idle hn, _, cycleTrace_of_idle_disabled ho he s.cfg s.answer, ?_⟩
  intro e hm
  obtain ⟨q, -, rfl⟩ := List.mem_map.1 hm
  rfl

/-! ### The invalid state (R246) -/

section
variable {r : Regs} (ho : r.opState = OpState.invalid)
include ho

theorem nextOp_of_invalid : nextOp r = OpState.invalid := by simp [nextOp, ho]

theorem commands_of_invalid : commands r = [] := by simp [commands, nextOp_of_invalid ho]

theorem lastActionAfter_of_invalid : lastActionAfter r = r.lastAction := by
  rw [lastActionAfter, commands_of_invalid ho]
  rfl

theorem stateReports_of_invalid :
    stateReports r = [.invalidStateAdvance OpState.invalid, .invalidStateRegulate OpState.invalid] := by
  rw [stateReports, if_pos ho, ho]

end

/-- Settles O42: in the invalid state the tables hold the three registers, list no command, and put the two state reports
before every other event. -/
theorem invalidStateAbsorbing : Obligations.InvalidStateAbsorbing := by
  intro s t ho h
  cases execTick_next_afterCycle h
  have hacts : (afterCycle s).trace.filter Event.isAct = [] :=
    (cycleTrace_filter_isAct _ _ _).trans (congrArg (List.map Event.act) (commands_of_invalid ho))
  have htrace : ∃ r, (afterCycle s).trace =
      .report (.invalidStateAdvance OpState.invalid) :: .report (.invalidStateRegulate OpState.invalid) :: r := by
    simp [afterCycle, cycleTrace, stateReports_of_invalid ho]
  obtain ⟨r, hr⟩ := htrace
  exact ⟨nextOp_of_invalid ho, entryNet_of_invalid ho, lastActionAfter_of_invalid ho, congrArg List.length hacts,
    _, _, r, hr, rfl, rfl, rfl, rfl⟩

/-! ### The end of a charge against a control frame (R241) -/

/-- Equality ends the charge (R103). -/
theorem nextOp_of_charge_over {r : Regs} (ho : r.opState = OpState.constantVoltage)
    (hle : r.feedbackCurrent.toNat ≤ r.minCurrent.toNat) : nextOp r = OpState.idle := by
  simp [nextOp, ho, hle]

/-- The decode comes after the state machine: its `enable` stands at the end of the cycle. -/
theorem afterCycle_enable_of_update {s : State} {v c : Word} {e : Bool}
    (hu : controlUpdate s.cfg s.answer = some (v, c, e)) : (afterCycle s).regs.enable = e := by
  simp [afterCycle, regsAfter, hu]

/-- Settles O44: the state machine ends the charge before the decode writes `enable`, which the next cycle's Idle state
tests. -/
theorem enableRace : Obligations.EnableRace := by
  intro s t d0 d1 d2 d3 e rest ho hle hq h
  cases execTick_next_afterCycle h
  have hidle : (afterCycle s).regs.opState = OpState.idle := nextOp_of_charge_over ho hle
  have henable : (afterCycle s).regs.enable = e := afterCycle_enable_of_update (controlUpdate_eq_some.2
    ⟨d0, d1, d2, d3, enableByte e, rest, hq, enableByte_valid e, rfl, rfl, (enableByte_eq_one e).symm⟩)
  refine ⟨hidle, henable, fun u he hu => ?_⟩
  cases execTick_next_afterCycle hu
  exact (nextOp_of_idle hidle).trans (if_pos (henable.trans he))

/-! ### The poll and its answer (R160, R237, R243) -/

/-- Settles O46: a completed TICK drops the queue's head, which is the answer its one poll event shows. -/
theorem oneFramePerCycle : Obligations.OneFramePerCycle := by
  intro s t h
  cases execTick_next_afterCycle h
  exact ⟨rfl, cycleTrace_filter_isPoll s.cfg s.regs s.answer⟩

/-- What a cycle does before its poll: the reports, commands and frames of the registers at entry. -/
def traceBeforePoll (p : Params) (r : Regs) : List Event :=
  (stateReports r).map .report ++ (commands r).map .act ++ (framesSent p r).map .tx

theorem not_isPoll_of_mem_traceBeforePoll {p : Params} {r : Regs} {e : Event} (h : e ∈ traceBeforePoll p r) :
    (!e.isPoll) = true := by
  simp only [traceBeforePoll, List.mem_append, List.mem_map] at h
  obtain (⟨_, -, rfl⟩ | ⟨_, -, rfl⟩) | ⟨_, -, rfl⟩ := h
  · rfl
  · rfl
  · rfl

/-- The trace of a cycle up to its poll does not depend on the answer (R61). -/
theorem cycleTrace_takeWhile_not_isPoll (p : Params) (r : Regs) (a : Option Frame) :
    (cycleTrace p r a).takeWhile (fun e => !e.isPoll) = traceBeforePoll p r := by
  have hsplit : cycleTrace p r a = traceBeforePoll p r ++ .rxPoll a :: (decodeReports p a).map .report :=
    List.append_assoc _ _ _
  have hpoll : (.rxPoll a :: (decodeReports p a).map .report).takeWhile (fun e : Event => !e.isPoll) = [] := rfl
  rw [hsplit, List.takeWhile_append_of_pos fun _ => not_isPoll_of_mem_traceBeforePoll, hpoll, List.append_nil]

/-- Settles O47: both cycles are those of the tables for the same registers, in which the answer reaches the decode's
writes and the events from the poll on alone. -/
theorem answerDoesNotReachItsOwnCycle : Obligations.AnswerDoesNotReachItsOwnCycle := by
  intro s t u q ht hu
  cases execTick_next_afterCycle ht
  cases execTick_next_afterCycle hu
  exact ⟨rfl, rfl, rfl,
    (cycleTrace_takeWhile_not_isPoll _ _ _).trans (cycleTrace_takeWhile_not_isPoll _ _ _).symm⟩

end Sys2Proof.Machine
end

section
/-! One step by what is fetched: inside a cycle the operation of the slot's key (R79), between cycles the next script line
(R82). -/

namespace Sys2Proof.Machine

/-! ### Inside a cycle (R79, R160, R161) -/

/-- The laws of a step inside a cycle speak of a state put into a slot; a state that stands there is one. -/
theorem step_eq_step_setSlot {s : State} {x : Slot} (hs : s.slot = x) : step s = step (s.setSlot x) := by
  subst hs
  rfl

/-- Settles O53: the decoded key is what the fetch answers, and the slot that follows is the one `retire` gives; with the
status gate closed the step passes the slot, as ENC_STATUS does nothing. -/
theorem stepRunsSelectedKey : Obligations.StepRunsSelectedKey := by
  intro s i hl
  rw [← launchable_iff] at hl
  refine ⟨fun hs hi => ?_, fun hs hi => ?_, fun hs hi => ?_, fun hs => ?_, fun hs => ?_⟩
  all_goals rw [step_eq_step_setSlot hs]
  · exact step_of_fetch_inside hl (fetchKey_of_decode hi _) (by decide) fun _ => rfl
  · exact step_of_fetch_inside hl (fetchKey_of_decode hi _) (by decide) fun _ => rfl
  · exact step_of_fetch_inside hl (fetchKey_of_decode hi _) (by decide) fun _ => rfl
  · exact step_heartbeat hl
  · exact step_status hl

/-- Settles O54: a fitting answer is polled, the key of what the poll latched selects the class, and `retire` ends the
cycle. -/
theorem stepPollsAndDecodes : Obligations.StepPollsAndDecodes := by
  intro s i hs hl hfits hi
  have hpoll := poll_eq_ok.2 ⟨hfits, rfl⟩
  have hfetch : fetch s = .op i { s with
      rxAnswer := s.answer, rxQueue := s.rxQueue.tail, trace := s.trace ++ [.rxPoll s.answer] } := by
    simp only [fetch, hs, hpoll, fetchKey_of_decode hi]
  rw [step_of_fetch_op (launchable_iff.2 hl) hfetch, hs]
  rfl

/-! ### Between cycles (R82, R215) -/

section
variable {s : State} (hl : launchProblem s = none)
include hl

theorem step_of_fetch_skip {t : State} (h : fetch s = .skip t) : step s = .next t := by
  simp only [step, hl, h]

theorem step_of_fetch_stop {r : Refusal} (h : fetch s = .stop r) : step s = .refused r := by
  simp only [step, hl, h]

theorem step_of_fetch_quiet (h : fetch s = .quiet) : step s = .next s := by
  simp only [step, hl, h]

end

theorem fetch_of_between {s : State} (hs : s.slot = .between) : fetch s = fetchLine s := by
  simp only [fetch, hs]

/-- An operation with nothing to do after it is that operation. -/
theorem andThen_pure (o : Result) : andThen o .next = o := by
  cases o <;> rfl

/-- Settles O52: each outcome of decoding the next line is one outcome of the fetch, and `retire` adds nothing to a host
operation. -/
theorem stepRunsNextScriptLine : Obligations.StepRunsNextScriptLine := by
  intro s hs hl
  refine ⟨fun l ls i hscript hd => ?_, fun l ls hscript hd => ?_, fun l ls e hscript hd he => ?_, fun hscript => ?_⟩
  · have hfetch : fetch s = .op i (s.setScript ls) := by
      simp only [fetch_of_between hs, fetchLine, hscript, hd]
    have hrun := step_of_fetch_op (launchable_iff.2 hl) hfetch
    rw [hs] at hrun
    exact hrun.trans (andThen_pure _)
  · have hfetch : fetch s = .skip (s.setScript ls) := by
      simp only [fetch_of_between hs, fetchLine, hscript, hd]
    exact step_of_fetch_skip hl hfetch
  · have hfetch : fetch s = .stop (.badLine e) := by
      simp only [fetch_of_between hs, fetchLine, hscript, hd]
    exact step_of_fetch_stop hl hfetch
  · have hfetch : fetch s = .quiet := by
      simp only [fetch_of_between hs, fetchLine, hscript]
    exact step_of_fetch_quiet hl hfetch

end Sys2Proof.Machine
end

section
/-! What the model answers where the spec selects or allows nothing (log entries 12, 15), and what RESET leaves of the
host (log entry 11). -/

namespace Sys2Proof.Machine

/-- CTRL_OK makes an update only from a frame whose byte 4 stands for a flag (R78, R166). -/
theorem execCtrlOk_of_no_enable {s : State}
    (h : ∀ f, s.rxAnswer = some f → ¬(f.data[4]? = some 0 ∨ f.data[4]? = some 1)) :
    execCtrlOk s = .refused .rxOperandMissing := by
  unfold execCtrlOk
  split
  · rename_i d4 _ ha
    split
    · rename_i e he
      obtain ⟨hvalid, -⟩ := enableOfByte_eq_some.1 he
      exact absurd (hvalid.imp (congrArg some) (congrArg some)) (h _ ha)
    · rfl
  · rfl

/-- Settles O19: the two rejecting classes read the latch, and CTRL_OK the enable byte of the frame in it. -/
theorem classWithoutItsFrameIsRefused : Obligations.ClassWithoutItsFrameIsRefused := by
  refine ⟨fun s ha => ⟨?_, ?_, ?_⟩, fun s f ha hv => ?_⟩
  · simp only [exec, execCtrlBadlen, ha]
  · simp only [exec, execCtrlBaden, ha]
  · refine execCtrlOk_of_no_enable fun f hf => ?_
    rw [ha] at hf
    cases hf
  · refine execCtrlOk_of_no_enable fun g hg => ?_
    rw [ha] at hg
    cases hg
    exact hv

/-- Settles O27: RESET's one update names the registers, the slot, the latch and the stage. -/
theorem resetKeepsHostSide : Obligations.ResetKeepsHostSide := by
  intro s t h
  cases execReset_next h
  exact ⟨rfl, rfl, rfl, rfl, rfl, rfl, rfl⟩

/-- Settles O56: past the guard of the cycle boundary, the stage is the first thing TICK tests. -/
theorem tickBeforeResetFaults : Obligations.TickBeforeResetFaults := by
  intro s hb hs
  rw [exec, execTick, betweenCycles_of_between hb, if_pos hs]

end Sys2Proof.Machine
end
